-- ==== Sys2Proof/Word.lean ====
section
/-! DEFINITION. The plain data of the block's ports: words, operation codes, requests and responses (spec/00_scope.md R10,
R12, R14, R19; spec/10_state.md R26), and the names the spec gives to its units and source formats. -/

namespace Sys2Proof

/-- One byte; only the serialiser outside the block uses it (R42). -/
abbrev Byte := BitVec 8

/-- A 64-bit word, half of a value (R10). -/
abbrev Word := BitVec 64

/-- A 128-bit port or value: `upper` in bits 127:64, `lower` in bits 63:0 (R17, R27). Bit 0 is the least significant (R14). -/
abbrev Quad := BitVec 128

/-- The operation code `op[7:0]` (R61). -/
abbrev OpCode := BitVec 8

/-- A request `(op, A, B)` (R19, R60). -/
structure Request where
  op : OpCode
  A : Quad
  B : Quad
  deriving DecidableEq, Repr

/-- A response `(R, X, invalid)` (R19, R60). -/
structure Response where
  R : Quad
  X : BitVec 32
  invalid : Bool
  deriving DecidableEq, Repr

/-- The twelve units (R2), in the order of their unit numbers (R61). -/
inductive BlockUnit where
  | binary128Encoder
  | binary128Decoder
  | binary128Classifier
  | binary128Comparator
  | float16ToBinary128
  | float32ToBinary128
  | float64ToBinary128
  | int32ToBinary128
  | int64ToBinary128
  | uint64ToBinary128
  | leadingZeroCounter
  | exponentRenormalizer
  deriving DecidableEq, Repr

/-- The IEEE source formats of the float units and of XRENORM (R11, R182). -/
inductive SourceFormat where
  | binary16
  | binary32
  | binary64
  deriving DecidableEq, Repr

/-- The order of the eight bytes of a word in byte-addressed storage (R42). -/
inductive ByteOrder where
  | big
  | little
  deriving DecidableEq, Repr, Inhabited

end Sys2Proof
end

