-- ==== Sys2Proof/Syntax.lean ====
section
/-! DEFINITION. The 33 operations of spec/opcode_table.json (spec/30_encoding.md R63), each with the operand fields R64 gives
it, in the assembler's argument order (R69). Ignored port bits are no part of an instruction. -/

namespace Sys2Proof

/-- A request for one defined operation, its operand fields taken out of `A` and `B` (R64). -/
inductive Instr where
  /-- `ENCRAW upper, lower` (R101). -/
  | encraw (upper lower : Word)
  /-- `ENCTUP sign, exp, sigu, sigl`; `exp` is signed (R102). -/
  | enctup (sign : Bool) (exp : BitVec 16) (sigu : BitVec 48) (sigl : Word)
  /-- `CONST index` (R105). -/
  | const (index : BitVec 4)
  /-- `DEC value` (R106). -/
  | dec (value : Quad)
  /-- `CLASS value` (R140). -/
  | classify (value : Quad)
  /-- `ISZERO value` (R131). -/
  | iszero (value : Quad)
  /-- `ISFINITE value` (R132). -/
  | isfinite (value : Quad)
  /-- `ISINF value` (R133). -/
  | isinf (value : Quad)
  /-- `ISPINF value` (R134). -/
  | ispinf (value : Quad)
  /-- `ISNINF value` (R135). -/
  | isninf (value : Quad)
  /-- `ISNAN value` (R136). -/
  | isnan (value : Quad)
  /-- `ISNEG value` (R137). -/
  | isneg (value : Quad)
  /-- `ISNORMAL value` (R138). -/
  | isnormal (value : Quad)
  /-- `ISSUBN value` (R139). -/
  | issubn (value : Quad)
  /-- `EQ a, b` (R152). -/
  | eq (a b : Quad)
  /-- `NE a, b` (R153). -/
  | ne (a b : Quad)
  /-- `LT a, b` (R155). -/
  | lt (a b : Quad)
  /-- `LE a, b` (R156). -/
  | le (a b : Quad)
  /-- `GT a, b` (R157). -/
  | gt (a b : Quad)
  /-- `GE a, b` (R158). -/
  | ge (a b : Quad)
  /-- `EQUALS a, b` (R160). -/
  | equals (a b : Quad)
  /-- `CMP a, b` (R161). -/
  | cmp (a b : Quad)
  /-- `CANON value` (R165). -/
  | canon (value : Quad)
  /-- `HASH value` (R166). -/
  | hash (value : Quad)
  /-- `F16TOQ p`, a binary16 pattern (R204). -/
  | f16toq (p : BitVec 16)
  /-- `F32TOQ p`, a binary32 pattern (R205). -/
  | f32toq (p : BitVec 32)
  /-- `F64TOQ p`, a binary64 pattern (R206). -/
  | f64toq (p : BitVec 64)
  /-- `I32TOQ n`, two's complement (R223). -/
  | i32toq (n : BitVec 32)
  /-- `I64TOQ n`, two's complement (R224). -/
  | i64toq (n : BitVec 64)
  /-- `U64TOQ n`, unsigned (R225). -/
  | u64toq (n : BitVec 64)
  /-- `LZC64 v` (R180). -/
  | lzc64 (v : Word)
  /-- `XRENORM fmt, be, s` (R182). -/
  | xrenorm (fmt : BitVec 2) (be : BitVec 11) (s : BitVec 6)
  /-- `REBIAS e`; `e` is signed (R183). -/
  | rebias (e : BitVec 16)
  deriving DecidableEq, Repr

end Sys2Proof
end

