-- ==== Sys2Proof/WellFormed.lean ====
section
/-! DEFINITION. An instruction is well formed when its sub-index is not reserved (spec/30_encoding.md R68): CONST and XRENORM
are the only operations with a reserved operand value. An ill-formed instruction still decodes and runs; its effect is the
block's one fault, `InvalidOperation` (spec/60_exceptions.md R301). -/

namespace Sys2Proof

/-- No reserved sub-index (R68). -/
def Instr.wf (i : Instr) : Bool :=
  match i with
  | .encraw _ _ => true
  | .enctup _ _ _ _ => true
  | .const index => decide (index.toNat ≤ 12)
  | .dec _ => true
  | .classify _ => true
  | .iszero _ => true
  | .isfinite _ => true
  | .isinf _ => true
  | .ispinf _ => true
  | .isninf _ => true
  | .isnan _ => true
  | .isneg _ => true
  | .isnormal _ => true
  | .issubn _ => true
  | .eq _ _ => true
  | .ne _ _ => true
  | .lt _ _ => true
  | .le _ _ => true
  | .gt _ _ => true
  | .ge _ _ => true
  | .equals _ _ => true
  | .cmp _ _ => true
  | .canon _ => true
  | .hash _ => true
  | .f16toq _ => true
  | .f32toq _ => true
  | .f64toq _ => true
  | .i32toq _ => true
  | .i64toq _ => true
  | .u64toq _ => true
  | .lzc64 _ => true
  | .xrenorm fmt _ _ => decide (fmt ≠ 3#2)
  | .rebias _ => true

end Sys2Proof
end

