-- ==== Sys2Proof/Decode.lean ====
section
/-! DEFINITION. The operation-code map and operand packing (spec/30_encoding.md R60 to R68): the decoder, total on every
request; the encoder; and the numbering of spec/opcode_table.json. -/

namespace Sys2Proof

/-- Why a request is no instruction. There is one reason (R62): its operation code is reserved (R67). -/
inductive DecodeError where
  | reservedOp (op : OpCode)
  deriving DecidableEq, Repr

/-- A row of the operation-code map (R63): the code, the mnemonic, and the operand fields taken from `A` and `B` (R64). -/
structure OpRow where
  code : OpCode
  mnemonic : String
  operands : Quad → Quad → Instr

/-- Unit 0, binary128_encoder (R63, R64). -/
def encoderRows : List OpRow :=
  [ ⟨0x00#8, "ENCRAW", fun A _ => .encraw (A.extractLsb' 64 64) (A.extractLsb' 0 64)⟩,
    ⟨0x01#8, "ENCTUP", fun A B =>
      .enctup (B.getLsbD 16) (B.extractLsb' 0 16) (A.extractLsb' 64 48) (A.extractLsb' 0 64)⟩,
    ⟨0x02#8, "CONST", fun A _ => .const (A.extractLsb' 0 4)⟩ ]

/-- Unit 1, binary128_decoder (R63, R64). -/
def decoderRows : List OpRow :=
  [ ⟨0x10#8, "DEC", fun A _ => .dec A⟩ ]

/-- Unit 2, binary128_classifier (R63, R64). -/
def classifierRows : List OpRow :=
  [ ⟨0x20#8, "CLASS", fun A _ => .classify A⟩,
    ⟨0x21#8, "ISZERO", fun A _ => .iszero A⟩,
    ⟨0x22#8, "ISFINITE", fun A _ => .isfinite A⟩,
    ⟨0x23#8, "ISINF", fun A _ => .isinf A⟩,
    ⟨0x24#8, "ISPINF", fun A _ => .ispinf A⟩,
    ⟨0x25#8, "ISNINF", fun A _ => .isninf A⟩,
    ⟨0x26#8, "ISNAN", fun A _ => .isnan A⟩,
    ⟨0x27#8, "ISNEG", fun A _ => .isneg A⟩,
    ⟨0x28#8, "ISNORMAL", fun A _ => .isnormal A⟩,
    ⟨0x29#8, "ISSUBN", fun A _ => .issubn A⟩ ]

/-- Unit 3, binary128_comparator (R63, R64). -/
def comparatorRows : List OpRow :=
  [ ⟨0x30#8, "EQ", fun A B => .eq A B⟩,
    ⟨0x31#8, "NE", fun A B => .ne A B⟩,
    ⟨0x32#8, "LT", fun A B => .lt A B⟩,
    ⟨0x33#8, "LE", fun A B => .le A B⟩,
    ⟨0x34#8, "GT", fun A B => .gt A B⟩,
    ⟨0x35#8, "GE", fun A B => .ge A B⟩,
    ⟨0x36#8, "EQUALS", fun A B => .equals A B⟩,
    ⟨0x37#8, "CMP", fun A B => .cmp A B⟩,
    ⟨0x38#8, "CANON", fun A _ => .canon A⟩,
    ⟨0x39#8, "HASH", fun A _ => .hash A⟩ ]

/-- Units 4 to 9, the six importers (R63, R64). -/
def importerRows : List OpRow :=
  [ ⟨0x40#8, "F16TOQ", fun A _ => .f16toq (A.extractLsb' 0 16)⟩,
    ⟨0x50#8, "F32TOQ", fun A _ => .f32toq (A.extractLsb' 0 32)⟩,
    ⟨0x60#8, "F64TOQ", fun A _ => .f64toq (A.extractLsb' 0 64)⟩,
    ⟨0x70#8, "I32TOQ", fun A _ => .i32toq (A.extractLsb' 0 32)⟩,
    ⟨0x80#8, "I64TOQ", fun A _ => .i64toq (A.extractLsb' 0 64)⟩,
    ⟨0x90#8, "U64TOQ", fun A _ => .u64toq (A.extractLsb' 0 64)⟩ ]

/-- Units 10 and 11, leading_zero_counter and exponent_renormalizer (R63, R64). -/
def helperRows : List OpRow :=
  [ ⟨0xA0#8, "LZC64", fun A _ => .lzc64 (A.extractLsb' 0 64)⟩,
    ⟨0xB0#8, "XRENORM", fun A _ =>
      .xrenorm (A.extractLsb' 0 2) (A.extractLsb' 8 11) (A.extractLsb' 24 6)⟩,
    ⟨0xB1#8, "REBIAS", fun A _ => .rebias (A.extractLsb' 0 16)⟩ ]

/-- The operation-code map, 33 rows (R63). -/
def opRows : List OpRow :=
  encoderRows ++ decoderRows ++ classifierRows ++ comparatorRows ++ importerRows ++ helperRows

/-- The row of an operation code, none for a reserved one; `op` is matched in full (R62). -/
def rowOf (op : OpCode) : Option OpRow :=
  opRows.find? (fun row => row.code == op)

/-- Decode a request, looking at `op` alone to select the operation (R60, R62), and rejecting a reserved code by name
(R67). -/
def decode (r : Request) : Except DecodeError Instr :=
  match rowOf r.op with
  | some row => .ok (row.operands r.A r.B)
  | none => .error (.reservedOp r.op)

/-- The request of an instruction: its code (R63) and its fields packed by R64, ignored bits 0 (R69). -/
def encode (i : Instr) : Request :=
  match i with
  | .encraw upper lower => ⟨0x00#8, upper ++ lower, 0#128⟩
  | .enctup sign exp sigu sigl =>
      ⟨0x01#8, 0#16 ++ sigu ++ sigl, 0#111 ++ BitVec.ofBool sign ++ exp⟩
  | .const index => ⟨0x02#8, 0#124 ++ index, 0#128⟩
  | .dec value => ⟨0x10#8, value, 0#128⟩
  | .classify value => ⟨0x20#8, value, 0#128⟩
  | .iszero value => ⟨0x21#8, value, 0#128⟩
  | .isfinite value => ⟨0x22#8, value, 0#128⟩
  | .isinf value => ⟨0x23#8, value, 0#128⟩
  | .ispinf value => ⟨0x24#8, value, 0#128⟩
  | .isninf value => ⟨0x25#8, value, 0#128⟩
  | .isnan value => ⟨0x26#8, value, 0#128⟩
  | .isneg value => ⟨0x27#8, value, 0#128⟩
  | .isnormal value => ⟨0x28#8, value, 0#128⟩
  | .issubn value => ⟨0x29#8, value, 0#128⟩
  | .eq a b => ⟨0x30#8, a, b⟩
  | .ne a b => ⟨0x31#8, a, b⟩
  | .lt a b => ⟨0x32#8, a, b⟩
  | .le a b => ⟨0x33#8, a, b⟩
  | .gt a b => ⟨0x34#8, a, b⟩
  | .ge a b => ⟨0x35#8, a, b⟩
  | .equals a b => ⟨0x36#8, a, b⟩
  | .cmp a b => ⟨0x37#8, a, b⟩
  | .canon value => ⟨0x38#8, value, 0#128⟩
  | .hash value => ⟨0x39#8, value, 0#128⟩
  | .f16toq p => ⟨0x40#8, 0#112 ++ p, 0#128⟩
  | .f32toq p => ⟨0x50#8, 0#96 ++ p, 0#128⟩
  | .f64toq p => ⟨0x60#8, 0#64 ++ p, 0#128⟩
  | .i32toq n => ⟨0x70#8, 0#96 ++ n, 0#128⟩
  | .i64toq n => ⟨0x80#8, 0#64 ++ n, 0#128⟩
  | .u64toq n => ⟨0x90#8, 0#64 ++ n, 0#128⟩
  | .lzc64 v => ⟨0xA0#8, 0#64 ++ v, 0#128⟩
  | .xrenorm fmt be s => ⟨0xB0#8, 0#98 ++ s ++ 0#5 ++ be ++ 0#6 ++ fmt, 0#128⟩
  | .rebias e => ⟨0xB1#8, 0#112 ++ e, 0#128⟩

/-- The units in the order of their unit numbers (R61). -/
def blockUnits : List BlockUnit :=
  [ .binary128Encoder, .binary128Decoder, .binary128Classifier, .binary128Comparator, .float16ToBinary128,
    .float32ToBinary128, .float64ToBinary128, .int32ToBinary128, .int64ToBinary128, .uint64ToBinary128,
    .leadingZeroCounter, .exponentRenormalizer ]

/-- The unit a number names; 12 to 15 are no unit (R61). -/
def unitOf (number : BitVec 4) : Option BlockUnit := blockUnits[number.toNat]?

/-- `op[7:4]`, the unit field of an operation code (R61). -/
def unitField (op : OpCode) : BitVec 4 := op.extractLsb' 4 4

/-- `op[3:0]`, the function field of an operation code (R61). -/
def fnField (op : OpCode) : BitVec 4 := op.extractLsb' 0 4

/-- The unit that answers an instruction (R2). -/
def Instr.blockUnit (i : Instr) : BlockUnit :=
  match i with
  | .encraw _ _ | .enctup _ _ _ _ | .const _ => .binary128Encoder
  | .dec _ => .binary128Decoder
  | .classify _ | .iszero _ | .isfinite _ | .isinf _ | .ispinf _ | .isninf _ | .isnan _ | .isneg _
  | .isnormal _ | .issubn _ => .binary128Classifier
  | .eq _ _ | .ne _ _ | .lt _ _ | .le _ _ | .gt _ _ | .ge _ _ | .equals _ _ | .cmp _ _
  | .canon _ | .hash _ => .binary128Comparator
  | .f16toq _ => .float16ToBinary128
  | .f32toq _ => .float32ToBinary128
  | .f64toq _ => .float64ToBinary128
  | .i32toq _ => .int32ToBinary128
  | .i64toq _ => .int64ToBinary128
  | .u64toq _ => .uint64ToBinary128
  | .lzc64 _ => .leadingZeroCounter
  | .xrenorm _ _ _ | .rebias _ => .exponentRenormalizer

/-- MX's own names, accepted by the assembler as aliases of mnemonics (R70). `half`, `float` and `double` name sources,
not operations, and have no row. -/
def mnemonicAliases : List (String × String) :=
  [ ("IsZero", "ISZERO"), ("IsFinite", "ISFINITE"), ("IsInfinity", "ISINF"), ("IsPositiveInfinity", "ISPINF"),
    ("IsNegativeInfinity", "ISNINF"), ("IsNaN", "ISNAN"), ("IsNegative", "ISNEG"), ("IsNormal", "ISNORMAL"),
    ("IsSubnormal", "ISSUBN"), ("==", "EQ"), ("!=", "NE"), ("<", "LT"), ("<=", "LE"), (">", "GT"), (">=", "GE"),
    ("Equals", "EQUALS"), ("compare", "CMP") ]

/-- The operation code of a mnemonic or of one of its aliases (R63, R70). -/
def codeOfMnemonic (name : String) : Option OpCode :=
  let mnemonic := (mnemonicAliases.lookup name).getD name
  (opRows.find? (fun row => row.mnemonic == mnemonic)).map (·.code)

/-- A request as one 264-bit word: `req[263:256] = op`, `req[255:128] = A`, `req[127:0] = B` (R60). -/
def Request.toWord (r : Request) : BitVec 264 := r.op ++ r.A ++ r.B

/-- The request of a 264-bit word (R60). -/
def Request.ofWord (w : BitVec 264) : Request :=
  ⟨w.extractLsb' 256 8, w.extractLsb' 128 128, w.extractLsb' 0 128⟩

/-- The request of a word numbered as spec/opcode_table.json numbers it: the `op` byte in bits 7..0, then (where the word is
longer) `A` and `B`, the order in which R69 lists an encoding; bits at or above `nbits` are 0. DESIGN CHOICE, log entry 7. -/
def requestOfTableWord (nbits w : Nat) : Request :=
  let v := w % 2 ^ nbits
  ⟨BitVec.ofNat 8 v, BitVec.ofNat 128 (v / 2 ^ 8), BitVec.ofNat 128 (v / 2 ^ 136)⟩

/-- The instruction the decoder reads from a word numbered as spec/opcode_table.json numbers it. -/
def decodeTableWord (nbits w : Nat) : Option Instr :=
  match decode (requestOfTableWord nbits w) with
  | .ok i => some i
  | .error _ => none

end Sys2Proof
end

