-- ==== Sys2Proof/Config.lean ====
section
/-! DEFINITION. The open parameters of the spec (spec/00_scope.md R13; spec/92_eei_decisions.md "Open parameters"): constants
without a body, so that no proof can learn a value of one. -/

namespace Sys2Proof

/-- `CONST_PI`, index 10 of the constant table: OPEN (R13, R30, D9; log entry 4). -/
opaque Config.constPi : Quad

/-- `CONST_TAU`, index 11 of the constant table: OPEN (R13, R30, D9; log entry 4). -/
opaque Config.constTau : Quad

/-- `CONST_E`, index 12 of the constant table: OPEN (R13, R30, D9; log entry 4). -/
opaque Config.constE : Quad

/-- `HASHW - 1`, OPEN within the bound the spec sets, `1 <= HASHW <= 128` (R13, D10; log entry 5). -/
opaque Config.hashWidthPred : Fin 128

/-- `HASHW`, the width of a hash (R13, R166; log entry 5). -/
def Config.hashWidth : Nat := Config.hashWidthPred.val + 1

/-- `HASH_COMBINE`, OPEN: nothing is assumed of it but that it is a function of its two words (R13, R166, D10; log
entry 5). -/
opaque Config.hashCombine : Word → Word → BitVec Config.hashWidth

/-- `SER_BYTE_ORDER`, OPEN and read by no rule of the block (R42, D18; log entry 6). -/
opaque Config.serByteOrder : ByteOrder

end Sys2Proof
end

