-- ==== Sys2Proof/Machine/Operands.lean ====
section
/-! DEFINITION. The fields of a 128-bit value and how results are placed on the output ports (spec/00_scope.md R17;
spec/10_state.md R27; spec/30_encoding.md R64). The operand fields of each operation are taken from `A` and `B` by the rows of
Sys2Proof/Decode.lean. -/

namespace Sys2Proof.Machine

/-- `upper`, bits 127:64 of a value (R17). -/
def upper (q : Quad) : Word := q.extractLsb' 64 64

/-- `lower`, bits 63:0 of a value (R17). -/
def lower (q : Quad) : Word := q.extractLsb' 0 64

/-- The sign, `upper[63]` (R17, R27). -/
def sign (q : Quad) : Bool := q.getLsbD 127

/-- The biased exponent, `upper[62:48]` (R17, R27). -/
def bexp (q : Quad) : BitVec 15 := q.extractLsb' 112 15

/-- The upper 48 bits of the trailing significand, `upper[47:0]` (R17). -/
def sigu (q : Quad) : BitVec 48 := q.extractLsb' 64 48

/-- The lower 64 bits of the trailing significand (R17). -/
def sigl (q : Quad) : Word := q.extractLsb' 0 64

/-- The 112-bit trailing significand `{sigu, sigl}` (R17). -/
def sig (q : Quad) : BitVec 112 := q.extractLsb' 0 112

/-- A value written `hi : lo` (R69). -/
def value (hi lo : Word) : Quad := hi ++ lo

/-- A predicate on `R[0]`, the other bits 0 (R64, R130, R150). -/
def onBit0 (b : Bool) : Quad := if b then 1#128 else 0#128

/-- A narrow result in the low bits of `R`, the other bits 0 (R64). -/
def onLow {n : Nat} (v : BitVec n) : Quad := v.setWidth 128

end Sys2Proof.Machine
end

