-- ==== Sys2Proof/Machine/Flags.lean ====
section
/-! DEFINITION. The block stores no flags and no condition codes (spec/10_state.md R23). This file holds what takes their
place, computations whose results are data: the nine class predicates (spec/41_classifier.md R130 to R139) and the
comparison predicates (spec/42_comparator.md R151 to R161). -/

namespace Sys2Proof.Machine

/-- `sz`: all 112 significand bits are zero (R130). -/
def sigIsZero (q : Quad) : Bool := sig q == 0#112

/-- `e = 0x7FFF` (R130). -/
def expIsMax (q : Quad) : Bool := bexp q == 0x7FFF#15

/-- `e = 0` (R130). -/
def expIsZero (q : Quad) : Bool := bexp q == 0#15

/-- IsZero (R131). -/
def isZero (q : Quad) : Bool := expIsZero q && sigIsZero q

/-- IsFinite (R132). -/
def isFinite (q : Quad) : Bool := !expIsMax q

/-- IsInfinity (R133). -/
def isInfinity (q : Quad) : Bool := expIsMax q && sigIsZero q

/-- IsPositiveInfinity (R134). -/
def isPositiveInfinity (q : Quad) : Bool := expIsMax q && sigIsZero q && !sign q

/-- IsNegativeInfinity (R135). -/
def isNegativeInfinity (q : Quad) : Bool := expIsMax q && sigIsZero q && sign q

/-- IsNaN (R136). -/
def isNaN (q : Quad) : Bool := expIsMax q && !sigIsZero q

/-- IsNegative (R137). -/
def isNegative (q : Quad) : Bool := sign q

/-- IsNormal (R138). -/
def isNormal (q : Quad) : Bool := !expIsZero q && !expIsMax q

/-- IsSubnormal (R139). -/
def isSubnormal (q : Quad) : Bool := expIsZero q && !sigIsZero q

/-- The nine predicate bits of CLASS, bit 0 last (R140). -/
def classBits (q : Quad) : BitVec 9 :=
  BitVec.ofBool (isSubnormal q) ++ BitVec.ofBool (isNormal q) ++ BitVec.ofBool (isNegative q)
    ++ BitVec.ofBool (isNaN q) ++ BitVec.ofBool (isNegativeInfinity q) ++ BitVec.ofBool (isPositiveInfinity q)
    ++ BitVec.ofBool (isInfinity q) ++ BitVec.ofBool (isFinite q) ++ BitVec.ofBool (isZero q)

/-- Both represent zero, regardless of sign (R151). -/
def areZero (a b : Quad) : Bool := isZero a && isZero b

/-- All 128 bits equal (R151). -/
def same (a b : Quad) : Bool := a == b

/-- `uint(p) < uint(q)` on 128 bits (R15). -/
def ult128 (p q : Quad) : Bool := p.ult q

/-- `ult128(p, q) or p = q` (R15). -/
def ule128 (p q : Quad) : Bool := ult128 p q || same p q

/-- `==`, IEEE equality (R152). -/
def eqQ (a b : Quad) : Bool := (!isNaN a && !isNaN b && same a b) || areZero a b

/-- `<` (R154, R155). -/
def ltQ (a b : Quad) : Bool :=
  if isNaN a || isNaN b then false
  else if sign a != sign b then
    if areZero a b then false else sign a
  else if !sign a then ult128 a b
  else ult128 b a

/-- `<=` (R154, R156). -/
def leQ (a b : Quad) : Bool :=
  if isNaN a || isNaN b then false
  else if sign a != sign b then
    if areZero a b then true else sign a
  else if !sign a then ule128 a b
  else ule128 b a

/-- `Equals`, the equatable contract: every NaN equals every NaN (R160, R163). -/
def equalsQ (a b : Quad) : Bool := eqQ a b || (isNaN a && isNaN b)

/-- Three-way compare, a signed 2-bit number: `0b11` is -1, `0b00` is 0, `0b01` is +1 (R161). -/
def cmpQ (a b : Quad) : BitVec 2 :=
  if ltQ a b then 0b11#2
  else if ltQ b a then 0b01#2
  else if eqQ a b then 0b00#2
  else if isNaN a && isNaN b then 0b00#2
  else if isNaN a then 0b01#2
  else 0b11#2

end Sys2Proof.Machine
end

