-- ==== Sys2Proof/Machine/State.lean ====
section
/-! DEFINITION. The state of the model. The block has no architectural state (spec/10_state.md R20 to R25); State is the
values that stand on its ports (R26), and nothing else (log entries 1 and 2). -/

namespace Sys2Proof.Machine

/-- The values on the ports of the block (R26). The host drives `op`, `A`, `B`; a step, which is one evaluation of the
request that stands there, drives `R`, `X`, `invalid`. -/
structure State where
  op : OpCode
  A : Quad
  B : Quad
  R : Quad
  X : BitVec 32
  invalid : Bool
  deriving DecidableEq, Repr

/-- The block's faults: one (R301, R302). -/
inductive Fault where
  /-- Raised by a reserved `op`, by CONST with index 13 to 15 and by XRENORM with format 3 (R301). The block goes on, so no
  step ends in it: it is what the host reads from a response with `invalid = 1` (`Response.answer`). Safe: it carries no
  result (log entry 3). -/
  | invalidOperation
  deriving DecidableEq, Repr

/-- Why the model would give an instruction no meaning. -/
inductive Refusal where
  /-- Raised by an arm of `exec` whose instruction has no meaning yet; no arm raises it now. Safe: nothing can be proved of
  such an instruction. -/
  | notModelled (mnemonic : String)
  deriving DecidableEq, Repr

/-- After reset. The block has no reset state (R32, R340); the model's run begins with every input 0, a DESIGN CHOICE, and
with the outputs R32 then requires, the response to that request: ENCRAW of 0 is 0 (log entry 2). -/
def State.reset : State :=
  { op := 0#8, A := 0#128, B := 0#128, R := 0#128, X := 0#32, invalid := false }

end Sys2Proof.Machine
end

