-- ==== Sys2Proof/Machine/Ops.lean ====
section
/-! DEFINITION. The operations the meanings share: presenting a request and answering it, the block's one fault
(spec/60_exceptions.md R301, R305), the arithmetic primitives (spec/00_scope.md R15; spec/43_lzc_exponent.md), the constant
table (spec/10_state.md R30) and the two constructions of a value (spec/40_codec.md). -/

namespace Sys2Proof.Machine

/-! ### Requests and responses -/

/-- The request that stands on the input ports (R26, R60). -/
def State.request (s : State) : Request := ⟨s.op, s.A, s.B⟩

/-- The response that stands on the output ports (R26, R60). -/
def State.response (s : State) : Response := ⟨s.R, s.X, s.invalid⟩

/-- The host presents a request; the outputs stand until the step evaluates it (R4, R44; log entry 1). -/
def State.present (s : State) (r : Request) : State := { s with op := r.op, A := r.A, B := r.B }

/-- The block drives its outputs (R26). -/
def State.withResponse (s : State) (r : Response) : State := { s with R := r.R, X := r.X, invalid := r.invalid }

/-- Answer with `R` and `X` and `invalid = 0` (R64, R100). -/
def answerRX (s : State) (R : Quad) (X : BitVec 32) : Host.Outcome State Fault Refusal :=
  .next (s.withResponse ⟨R, X, false⟩)

/-- Answer with `R`, `X = 0` and `invalid = 0` (R64, R100). -/
def answerR (s : State) (R : Quad) : Host.Outcome State Fault Refusal := answerRX s R 0#32

/-- The response of the one fault: `invalid = 1`, `R = 0`, `X = 0` (R301). -/
def invalidResponse : Response := ⟨0#128, 0#32, true⟩

/-- TAKING THE EXCEPTION `InvalidOperation` (R301, R305): the response is `invalidResponse`; no state is saved, no mode changes
and no control moves, so the machine goes on. There is no return from it: R305 gives the block no trap-return operation and
nothing to restore (log entry 3). -/
def takeInvalidOperation (s : State) : Host.Outcome State Fault Refusal := .next (s.withResponse invalidResponse)

/-! ### Arithmetic primitives -/

/-- `shl_N(v, s)`, total, 0 for a count at or above the width (R15, R342). -/
def shl {n : Nat} (v : BitVec n) (s : Nat) : BitVec n := v <<< s

/-- `shr(v, s)`, total, 0 for a count at or above the width (R15, R342). -/
def shr {n : Nat} (v : BitVec n) (s : Nat) : BitVec n := v >>> s

/-- The number of zero bits above the most significant 1 bit among bits `n - 1 .. 0` of `v`; `n` if they are all 0. -/
def leadingZerosBelow (v : Word) : Nat → Nat
  | 0 => 0
  | n + 1 => if v.getLsbD n then 0 else leadingZerosBelow v n + 1

/-- `lzc64(v)`, 64 at zero (R15, R180). -/
def lzc64 (v : Word) : Nat := leadingZerosBelow v 64

/-- `lzc_N(v)`, for `N <= 64` (R15, R181). -/
def lzcN {n : Nat} (v : BitVec n) : Nat := lzc64 (v.setWidth 64) - (64 - n)

/-- `BIAS` (R10). -/
def bias : Int := 16383

/-- Re-biasing, `(int(e) + 16383) mod 2^15`, with wrap-around and not saturation (R102, R103, R183). -/
def rebias (e : BitVec 16) : BitVec 15 := BitVec.ofInt 15 (e.toInt + bias)

/-- Un-biasing, `(uint(field) - 16383) mod 2^16` (R106, R185 (b)). -/
def unbias (field : BitVec 15) : BitVec 16 := BitVec.ofInt 16 (field.toNat - bias)

/-- Exponent field width of a source format (R11, R200). -/
def expWidth (f : SourceFormat) : Nat :=
  match f with
  | .binary16 => 5
  | .binary32 => 8
  | .binary64 => 11

/-- Fraction field width of a source format (R11, R200). -/
def fracWidth (f : SourceFormat) : Nat :=
  match f with
  | .binary16 => 10
  | .binary32 => 23
  | .binary64 => 52

/-- Exponent bias of a source format (R11, R200). -/
def expBias (f : SourceFormat) : Int :=
  match f with
  | .binary16 => 15
  | .binary32 => 127
  | .binary64 => 1023

/-- The format a `fmt` field selects; 3 is reserved (R182). -/
def formatOf (fmt : BitVec 2) : Option SourceFormat :=
  match fmt.toNat with
  | 0 => some .binary16
  | 1 => some .binary32
  | 2 => some .binary64
  | _ => none

/-- The sentinel exponent `0x4000` of infinity and NaN sources (R10, R182). -/
def sentinel : Int := 16384

/-- The unbiased exponent `x` of XRENORM, a mathematical integer (R182): `be` is masked to the format's exponent width. -/
def renormExponent (f : SourceFormat) (be : BitVec 11) (s : Nat) : Int :=
  let bem := be.toNat % 2 ^ expWidth f
  if bem = 2 ^ expWidth f - 1 then sentinel
  else if bem = 0 then 1 - expBias f - s
  else bem - expBias f

/-! ### The constant table -/

/-- `Zero`, index 0 (R30). -/
def constZero : Quad := value 0x0000000000000000#64 0x0000000000000000#64

/-- `NegativeZero`, index 1 (R30). -/
def constNegativeZero : Quad := value 0x8000000000000000#64 0x0000000000000000#64

/-- `NaN`, index 7 (R30). -/
def constNaN : Quad := value 0xFFFF800000000000#64 0x0000000000000000#64

/-- The thirteen named constants in index order (R30); indices 10 to 12 are the open parameters (R13; log entry 4). -/
def constantTable : List (String × Quad) :=
  [ ("Zero", constZero),
    ("NegativeZero", constNegativeZero),
    ("One", value 0x3FFF000000000000#64 0x0000000000000000#64),
    ("NegativeOne", value 0xBFFF000000000000#64 0x0000000000000000#64),
    ("MaxValue", value 0x7FFEFFFFFFFFFFFF#64 0xFFFFFFFFFFFFFFFF#64),
    ("MinValue", value 0xFFFEFFFFFFFFFFFF#64 0xFFFFFFFFFFFFFFFF#64),
    ("Epsilon", value 0x0000000000000000#64 0x0000000000000001#64),
    ("NaN", constNaN),
    ("PositiveInfinity", value 0x7FFF000000000000#64 0x0000000000000000#64),
    ("NegativeInfinity", value 0xFFFF000000000000#64 0x0000000000000000#64),
    ("Pi", Config.constPi),
    ("Tau", Config.constTau),
    ("E", Config.constE) ]

/-- `TABLE[i]`, none for a reserved index (R68, R105). -/
def constantAt (index : BitVec 4) : Option Quad := (constantTable[index.toNat]?).map Prod.snd

/-! ### Construction and canonicalisation of values -/

/-- The raw constructor: direct store, no validation (R101). -/
def encRaw (u l : Word) : Quad := u ++ l

/-- The tuple constructor: `upper = {s, rebias e, su}`, `lower = sl` (R102). -/
def encTuple (s : Bool) (e : BitVec 16) (su : BitVec 48) (sl : Word) : Quad :=
  BitVec.ofBool s ++ rebias e ++ su ++ sl

/-- Canonicalisation before hashing: NaN to the constant `NaN`, zero to the constant `Zero` (R165). -/
def canonical (q : Quad) : Quad :=
  if isNaN q then constNaN
  else if isZero q then constZero
  else q

end Sys2Proof.Machine
end

