-- ==== Sys2Proof/Machine/Classifier.lean ====
section
/-! DEFINITION. The classifier family: binary128_classifier (spec/41_classifier.md). -/

namespace Sys2Proof.Machine

/-- CLASS (R140). -/
def execClassify (q : Quad) (s : State) : Host.Outcome State Fault Refusal := answerR s (onLow (classBits q))

/-- ISZERO (R131). -/
def execIszero (q : Quad) (s : State) : Host.Outcome State Fault Refusal := answerR s (onBit0 (isZero q))

/-- ISFINITE (R132). -/
def execIsfinite (q : Quad) (s : State) : Host.Outcome State Fault Refusal := answerR s (onBit0 (isFinite q))

/-- ISINF (R133). -/
def execIsinf (q : Quad) (s : State) : Host.Outcome State Fault Refusal := answerR s (onBit0 (isInfinity q))

/-- ISPINF (R134). -/
def execIspinf (q : Quad) (s : State) : Host.Outcome State Fault Refusal := answerR s (onBit0 (isPositiveInfinity q))

/-- ISNINF (R135). -/
def execIsninf (q : Quad) (s : State) : Host.Outcome State Fault Refusal := answerR s (onBit0 (isNegativeInfinity q))

/-- ISNAN (R136). -/
def execIsnan (q : Quad) (s : State) : Host.Outcome State Fault Refusal := answerR s (onBit0 (isNaN q))

/-- ISNEG (R137). -/
def execIsneg (q : Quad) (s : State) : Host.Outcome State Fault Refusal := answerR s (onBit0 (isNegative q))

/-- ISNORMAL (R138). -/
def execIsnormal (q : Quad) (s : State) : Host.Outcome State Fault Refusal := answerR s (onBit0 (isNormal q))

/-- ISSUBN (R139). -/
def execIssubn (q : Quad) (s : State) : Host.Outcome State Fault Refusal := answerR s (onBit0 (isSubnormal q))

end Sys2Proof.Machine
end

