-- ==== Sys2Proof/Machine/Codec.lean ====
section
/-! DEFINITION. The codec family: binary128_encoder and binary128_decoder (spec/40_codec.md). -/

namespace Sys2Proof.Machine

/-- ENCRAW (R101). -/
def execEncraw (u l : Word) (s : State) : Host.Outcome State Fault Refusal := answerR s (encRaw u l)

/-- ENCTUP (R102, R103). -/
def execEnctup (sg : Bool) (e : BitVec 16) (su : BitVec 48) (sl : Word) (s : State) :
    Host.Outcome State Fault Refusal :=
  answerR s (encTuple sg e su sl)

/-- CONST; a reserved index takes `InvalidOperation` (R105). -/
def execConst (index : BitVec 4) (s : State) : Host.Outcome State Fault Refusal :=
  match constantAt index with
  | some q => answerR s q
  | none => takeInvalidOperation s

/-- `X` of DEC: unbiased exponent, sign, biased exponent (R106). -/
def decX (q : Quad) : BitVec 32 := unbias (bexp q) ++ BitVec.ofBool (sign q) ++ bexp q

/-- DEC (R106). -/
def execDec (q : Quad) (s : State) : Host.Outcome State Fault Refusal := answerRX s (onLow (sig q)) (decX q)

end Sys2Proof.Machine
end

