-- ==== Sys2Proof/Machine/Comparator.lean ====
section
/-! DEFINITION. The comparator family: binary128_comparator (spec/42_comparator.md). -/

namespace Sys2Proof.Machine

/-- EQ (R152). -/
def execEq (a b : Quad) (s : State) : Host.Outcome State Fault Refusal := answerR s (onBit0 (eqQ a b))

/-- NE (R153). -/
def execNe (a b : Quad) (s : State) : Host.Outcome State Fault Refusal := answerR s (onBit0 (!eqQ a b))

/-- LT (R155). -/
def execLt (a b : Quad) (s : State) : Host.Outcome State Fault Refusal := answerR s (onBit0 (ltQ a b))

/-- LE (R156). -/
def execLe (a b : Quad) (s : State) : Host.Outcome State Fault Refusal := answerR s (onBit0 (leQ a b))

/-- GT: LT with the operands exchanged (R157). -/
def execGt (a b : Quad) (s : State) : Host.Outcome State Fault Refusal := answerR s (onBit0 (ltQ b a))

/-- GE: LE with the operands exchanged (R158). -/
def execGe (a b : Quad) (s : State) : Host.Outcome State Fault Refusal := answerR s (onBit0 (leQ b a))

/-- EQUALS (R160). -/
def execEquals (a b : Quad) (s : State) : Host.Outcome State Fault Refusal := answerR s (onBit0 (equalsQ a b))

/-- CMP (R161). -/
def execCmp (a b : Quad) (s : State) : Host.Outcome State Fault Refusal := answerR s (onLow (cmpQ a b))

/-- CANON (R165). -/
def execCanon (q : Quad) (s : State) : Host.Outcome State Fault Refusal := answerR s (canonical q)

/-- The hash of a value: HASH_COMBINE, an open parameter, of its canonical form (R166; log entry 5). -/
def hashOf (q : Quad) : BitVec Config.hashWidth :=
  Config.hashCombine (upper (canonical q)) (lower (canonical q))

/-- HASH (R166). -/
def execHash (q : Quad) (s : State) : Host.Outcome State Fault Refusal := answerR s (onLow (hashOf q))

end Sys2Proof.Machine
end

