-- ==== Sys2Proof/Machine/Helper.lean ====
section
/-! DEFINITION. The helper family: leading_zero_counter and exponent_renormalizer (spec/43_lzc_exponent.md). -/

namespace Sys2Proof.Machine

/-- LZC64 (R180). -/
def execLzc64 (v : Word) (s : State) : Host.Outcome State Fault Refusal :=
  answerR s (onLow (BitVec.ofNat 7 (lzc64 v)))

/-- The 16-bit result of XRENORM (R182). -/
def xrenorm (f : SourceFormat) (be : BitVec 11) (sh : Nat) : BitVec 16 := BitVec.ofInt 16 (renormExponent f be sh)

/-- XRENORM; format 3 takes `InvalidOperation` (R182). -/
def execXrenorm (fmt : BitVec 2) (be : BitVec 11) (sh : BitVec 6) (s : State) : Host.Outcome State Fault Refusal :=
  match formatOf fmt with
  | some f => answerR s (onLow (xrenorm f be sh.toNat))
  | none => takeInvalidOperation s

/-- REBIAS (R183). -/
def execRebias (e : BitVec 16) (s : State) : Host.Outcome State Fault Refusal := answerR s (onLow (rebias e))

end Sys2Proof.Machine
end

