-- ==== Sys2Proof/Machine/FloatImport.lean ====
section
/-! DEFINITION. The float import family: one algorithm (spec/44_float_import.md R200 to R203) and its three instances. -/

namespace Sys2Proof.Machine

/-- Steps 5 and 6 (R203): the `F` fraction bits at the most significant end of the 112-bit significand, zero fill below,
then the tuple constructor. The same placement serves every class of source (R209). -/
def placeFraction {F : Nat} (s : Bool) (x : BitVec 16) (fn : BitVec F) : Quad :=
  let sig112 : BitVec 112 := shl (fn.setWidth 112) (112 - F)
  encTuple s x (sig112.extractLsb' 64 48) (sig112.extractLsb' 0 64)

/-- `fimport` (R201 to R203) on a `W`-bit source pattern with `E` exponent and `F` fraction bits. -/
def fimport (W E F : Nat) (fmt : SourceFormat) (p : BitVec W) : Quad :=
  let s := p.getLsbD (W - 1)
  let be : BitVec E := p.extractLsb' F E
  let f : BitVec F := p.extractLsb' 0 F
  if be = 0#E ∧ f = 0#F then BitVec.ofBool s ++ 0#127
  else if be = 0#E then
    let sh := lzcN f + 1
    placeFraction s (xrenorm fmt (be.setWidth 11) sh) (shl f sh)
  else placeFraction s (xrenorm fmt (be.setWidth 11) 0) f

/-- F16TOQ (R204). -/
def execF16toq (p : BitVec 16) (s : State) : Host.Outcome State Fault Refusal :=
  answerR s (fimport 16 5 10 .binary16 p)

/-- F32TOQ (R205). -/
def execF32toq (p : BitVec 32) (s : State) : Host.Outcome State Fault Refusal :=
  answerR s (fimport 32 8 23 .binary32 p)

/-- F64TOQ (R206). -/
def execF64toq (p : BitVec 64) (s : State) : Host.Outcome State Fault Refusal :=
  answerR s (fimport 64 11 52 .binary64 p)

end Sys2Proof.Machine
end

