-- ==== Sys2Proof/Machine/IntImport.lean ====
section
/-! DEFINITION. The integer import family: one algorithm (spec/45_int_import.md R220 to R222) and its three instances. -/

namespace Sys2Proof.Machine

/-- Steps 3 to 5 (R222) on a non-zero `W`-bit magnitude: its leading 1 is aligned with the implicit bit and dropped. -/
def placeMagnitude {W : Nat} (s : Bool) (m : BitVec W) : Quad :=
  let x := W - 1 - lzcN m
  let frac := m.toNat - 2 ^ x
  let sig112 : BitVec 112 := shl (BitVec.ofNat 112 frac) (112 - x)
  encTuple s (BitVec.ofNat 16 x) (sig112.extractLsb' 64 48) (sig112.extractLsb' 0 64)

/-- `iimport` (R220 to R222). The negation is two's complement in `W` bits and is read as unsigned, so the most negative
input needs no special case (R221). -/
def iimport {W : Nat} (signed : Bool) (n : BitVec W) : Quad :=
  if n = 0#W then constZero
  else if signed && n.getLsbD (W - 1) then placeMagnitude true (-n)
  else placeMagnitude false n

/-- I32TOQ (R223). -/
def execI32toq (n : BitVec 32) (s : State) : Host.Outcome State Fault Refusal := answerR s (iimport true n)

/-- I64TOQ (R224). -/
def execI64toq (n : BitVec 64) (s : State) : Host.Outcome State Fault Refusal := answerR s (iimport true n)

/-- U64TOQ (R225). -/
def execU64toq (n : BitVec 64) (s : State) : Host.Outcome State Fault Refusal := answerR s (iimport false n)

end Sys2Proof.Machine
end

