-- ==== Sys2Proof/Machine/Dispatch.lean ====
section
/-! DEFINITION. One arm per instruction, each one direct call of its meaning. -/

namespace Sys2Proof.Machine

def exec (i : Instr) (s : State) : Host.Outcome State Fault Refusal :=
  match i with
  | .encraw u l => Sys2Proof.Machine.execEncraw u l s
  | .enctup sg e su sl => Sys2Proof.Machine.execEnctup sg e su sl s
  | .const index => Sys2Proof.Machine.execConst index s
  | .dec q => Sys2Proof.Machine.execDec q s
  | .classify q => Sys2Proof.Machine.execClassify q s
  | .iszero q => Sys2Proof.Machine.execIszero q s
  | .isfinite q => Sys2Proof.Machine.execIsfinite q s
  | .isinf q => Sys2Proof.Machine.execIsinf q s
  | .ispinf q => Sys2Proof.Machine.execIspinf q s
  | .isninf q => Sys2Proof.Machine.execIsninf q s
  | .isnan q => Sys2Proof.Machine.execIsnan q s
  | .isneg q => Sys2Proof.Machine.execIsneg q s
  | .isnormal q => Sys2Proof.Machine.execIsnormal q s
  | .issubn q => Sys2Proof.Machine.execIssubn q s
  | .eq a b => Sys2Proof.Machine.execEq a b s
  | .ne a b => Sys2Proof.Machine.execNe a b s
  | .lt a b => Sys2Proof.Machine.execLt a b s
  | .le a b => Sys2Proof.Machine.execLe a b s
  | .gt a b => Sys2Proof.Machine.execGt a b s
  | .ge a b => Sys2Proof.Machine.execGe a b s
  | .equals a b => Sys2Proof.Machine.execEquals a b s
  | .cmp a b => Sys2Proof.Machine.execCmp a b s
  | .canon q => Sys2Proof.Machine.execCanon q s
  | .hash q => Sys2Proof.Machine.execHash q s
  | .f16toq p => Sys2Proof.Machine.execF16toq p s
  | .f32toq p => Sys2Proof.Machine.execF32toq p s
  | .f64toq p => Sys2Proof.Machine.execF64toq p s
  | .i32toq n => Sys2Proof.Machine.execI32toq n s
  | .i64toq n => Sys2Proof.Machine.execI64toq n s
  | .u64toq n => Sys2Proof.Machine.execU64toq n s
  | .lzc64 v => Sys2Proof.Machine.execLzc64 v s
  | .xrenorm fmt be sh => Sys2Proof.Machine.execXrenorm fmt be sh s
  | .rebias e => Sys2Proof.Machine.execRebias e s

end Sys2Proof.Machine
end

