-- ==== Sys2Proof/Machine/Step.lean ====
section
/-! DEFINITION. One step: the block evaluates the request that stands on its input ports (spec/00_scope.md R4;
spec/10_state.md R20, R32). -/

namespace Sys2Proof.Machine

/-- One evaluation. The block fetches nothing (R22, R49): the instruction is the request on the input ports. A reserved
operation code takes `InvalidOperation` (R67, R301). -/
def step (s : State) : Host.Outcome State Fault Refusal :=
  match decode s.request with
  | .ok i => exec i s
  | .error _ => takeInvalidOperation s

/-- The host presents the request of a word numbered as spec/opcode_table.json numbers it (log entry 7). -/
def State.withFetchWord (s : State) (nbits w : Nat) : State := s.present (requestOfTableWord nbits w)

end Sys2Proof.Machine
end

