-- ==== Sys2Proof/Machine/Value.lean ====
section
/-! DEFINITION. The numbers that bit patterns denote (spec/10_state.md R28; spec/44_float_import.md R207). No operation computes
with them: they give the word "exact" its meaning in claims (log entry 11). -/

namespace Sys2Proof.Machine

/-- What a floating-point pattern denotes, by class (R28). -/
inductive Denotation where
  | nan
  | infinity (negative : Bool)
  | zero (negative : Bool)
  | number (v : ℚ)
  deriving DecidableEq, Repr

/-- `(-1)^s` (R28). -/
def signFactor (negative : Bool) : ℚ := if negative then -1 else 1

/-- The denotation of an IEEE binary pattern with sign `s`, biased exponent `e` of width `E`, fraction `f` of width `F` and
exponent bias `b` (R28, R207): the all-ones exponent marks infinity and NaN, exponent 0 marks zero and subnormal. -/
def denoteFields (E F : Nat) (b : Int) (s : Bool) (e f : Nat) : Denotation :=
  if e = 2 ^ E - 1 then
    if f = 0 then .infinity s else .nan
  else if e = 0 then
    if f = 0 then .zero s else .number (signFactor s * 2 ^ (1 - b) * (f / 2 ^ F))
  else .number (signFactor s * 2 ^ ((e : Int) - b) * (1 + f / 2 ^ F))

/-- The denotation of a value (R28): `E = 15`, `F = 112`, bias 16383, so a subnormal has exponent -16382. -/
def denote (q : Quad) : Denotation :=
  denoteFields 15 112 bias (sign q) (bexp q).toNat (sig q).toNat

/-- The denotation of a source pattern (R11, R207): sign on top, exponent next, fraction in the low bits. -/
def denoteSource {W : Nat} (fmt : SourceFormat) (p : BitVec W) : Denotation :=
  denoteFields (expWidth fmt) (fracWidth fmt) (expBias fmt) (p.getLsbD (W - 1))
    (p.extractLsb' (fracWidth fmt) (expWidth fmt)).toNat (p.extractLsb' 0 (fracWidth fmt)).toNat

/-- The denotation of an integer source: zero is `+0` (R220, R226). -/
def denoteInt (n : Int) : Denotation := if n = 0 then .zero false else .number n

/-- The suggested default of `CONST_PI` (R30; log entry 4): named for claims only, the constant table does not use it. -/
def suggestedPi : Quad := value 0x4000921FB54442D1#64 0x8469898CC51701B8#64

/-- The suggested default of `CONST_TAU` (R30; log entry 4): named for claims only. -/
def suggestedTau : Quad := value 0x4001921FB54442D1#64 0x8469898CC51701B8#64

/-- The suggested default of `CONST_E` (R30; log entry 4): named for claims only. -/
def suggestedE : Quad := value 0x40005BF0A8B14576#64 0x95355FB8AC404E7A#64

end Sys2Proof.Machine
end

