-- ==== Sys2Proof/Machine/Wire.lean ====
section
/-! DEFINITION. The wire format of a value, for a serialiser outside the block (spec/20_memory.md R41, R42). -/

namespace Sys2Proof.Machine

/-- The two words of a value on the wire, `upper` first (R41). -/
def wireWords (q : Quad) : List Word := [upper q, lower q]

/-- Byte `k` of a word, byte 0 the least significant. -/
def byteOf (w : Word) (k : Nat) : Byte := w.extractLsb' (8 * k) 8

/-- The eight bytes of a word in a byte order (R42). -/
def wordBytes (order : ByteOrder) (w : Word) : List Byte :=
  match order with
  | .big => [7, 6, 5, 4, 3, 2, 1, 0].map (byteOf w)
  | .little => [0, 1, 2, 3, 4, 5, 6, 7].map (byteOf w)

/-- The sixteen bytes a serialiser writes: `upper` before `lower`, the order inside a word the open parameter
`SER_BYTE_ORDER` (R42; log entry 6). -/
def serialise (q : Quad) : List Byte := (wireWords q).flatMap (wordBytes Config.serByteOrder)

end Sys2Proof.Machine
end

