-- ==== Sys2Proof/Machine/Session.lean ====
section
/-! DEFINITION. The host's side of the ports: `eval` (spec/10_state.md R20), programs, which live in the host
(spec/00_scope.md R19), and the pseudo-operations (spec/30_encoding.md R71, R72). Nothing here is part of the block. -/

namespace Sys2Proof.Machine

/-- The block as a total function of one request, `eval : (op, A, B) -> (R, X, invalid)` (R20): one step on a machine whose
other ports are at reset. A step never stops (Obligations.EveryRequestIsAnswered), so the last arm is never reached. -/
def eval (r : Request) : Response :=
  match step (State.reset.present r) with
  | .next t => t.response
  | .fault _ | .refused _ => invalidResponse

/-- What a program may use of a response: the result, or the fault, which carries none (R301, 93 V5; log entry 3). -/
inductive Answer where
  | result (R : Quad) (X : BitVec 32)
  | fault (f : Fault)
  deriving DecidableEq, Repr

/-- The host reads a response (R301). -/
def answerOf (r : Response) : Answer :=
  if r.invalid then .fault .invalidOperation else .result r.R r.X

/-- The host presents each request of a list in turn and collects the responses (R19, R20). -/
def runRequests : State → List Request → List Response
  | _, [] => []
  | s, r :: rest =>
    match step (s.present r) with
    | .next t => t.response :: runRequests t rest
    | .fault _ | .refused _ => []

/-- A host is any function from the answers so far, oldest first, to its next request, if it makes one: so it may forward an
answer into a request and may branch (R19, R73; log entry 9). `runHost host n s past` is the answers after at most `n` more
requests. -/
def runHost (host : List Answer → Option Request) : Nat → State → List Answer → List Answer
  | 0, _, past => past
  | n + 1, s, past =>
    match host past with
    | none => past
    | some r =>
      match step (s.present r) with
      | .next t => runHost host n t (past ++ [answerOf t.response])
      | .fault _ | .refused _ => past

/-- The response the block gives an instruction. -/
def ask (i : Instr) : Response := eval (encode i)

/-- `AreZero a, b` (R71). -/
def pseudoAreZero (a b : Quad) : Bool :=
  (ask (.iszero a)).R.getLsbD 0 && (ask (.iszero b)).R.getLsbD 0

/-- `MOV dst, src` (R71). -/
def pseudoMov (src : Quad) : Quad := (ask (.encraw (upper src) (lower src))).R

/-- `GETSIGN` (R71). -/
def pseudoGetSign (q : Quad) : Bool := (ask (.dec q)).X.getLsbD 15

/-- `GETEXP` (R71). -/
def pseudoGetExp (q : Quad) : BitVec 15 := (ask (.dec q)).X.extractLsb' 0 15

/-- `GETSIG` (R71). -/
def pseudoGetSig (q : Quad) : BitVec 112 := (ask (.dec q)).R.extractLsb' 0 112

/-- `U32TOQ x` (R72). -/
def pseudoU32toq (x : BitVec 32) : Quad := (ask (.u64toq (x.setWidth 64))).R

end Sys2Proof.Machine
end

