-- ==== Sys2Proof/Safety.lean ====
section
/-! DEFINITION. What counts as a safe run, and the words the claims share: which operand bits a request reads, which result bits
it drives (spec/30_encoding.md R64), when it is invalid (spec/60_exceptions.md R301). The tables here are written from the
rules a second time, apart from the decoder and the meanings. -/

namespace Sys2Proof.Safety

open Sys2Proof.Machine

/-- A request the block answers with a result: a safe one. -/
def Answered (r : Request) : Prop := (eval r).invalid = false

/-- A run is safe when every request of it is answered with a result. -/
def SafeRun (rs : List Request) : Prop := ∀ r ∈ rs, Answered r

/-- The outputs are the function of the inputs that R32 says they are at every instant. -/
abbrev Settled (s : State) : Prop := s.response = eval s.request

/-- The reserved operation codes, by the ranges R67 lists. -/
def reservedOp (op : OpCode) : Bool :=
  let n := op.toNat
  let between (lo hi : Nat) : Bool := decide (lo ≤ n) && decide (n ≤ hi)
  between 0x03 0x0F || between 0x11 0x1F || between 0x2A 0x2F || between 0x3A 0x3F || between 0x41 0x4F
    || between 0x51 0x5F || between 0x61 0x6F || between 0x71 0x7F || between 0x81 0x8F || between 0x91 0x9F
    || between 0xA1 0xAF || between 0xB2 0xBF || between 0xC0 0xFF

/-- The three conditions that raise `InvalidOperation` (R301). -/
def invalidRequest (r : Request) : Bool :=
  reservedOp r.op || (r.op == 0x02#8 && decide (13 ≤ r.A.toNat % 16)) || (r.op == 0xB0#8 && decide (r.A.toNat % 4 = 3))

/-- `n` one bits from bit `lo` up. -/
def ones (lo n : Nat) : Quad := BitVec.ofNat 128 ((2 ^ n - 1) * 2 ^ lo)

/-- The bits of `A` an operation code reads (R64). -/
def readsA (op : OpCode) : Quad :=
  match op.toNat with
  | 0x00 => ones 0 128
  | 0x01 => ones 64 48 ||| ones 0 64
  | 0x02 => ones 0 4
  | 0x40 => ones 0 16
  | 0x50 => ones 0 32
  | 0x60 => ones 0 64
  | 0x70 => ones 0 32
  | 0x80 => ones 0 64
  | 0x90 => ones 0 64
  | 0xA0 => ones 0 64
  | 0xB0 => ones 0 2 ||| ones 8 11 ||| ones 24 6
  | 0xB1 => ones 0 16
  | _ => if reservedOp op then 0#128 else ones 0 128

/-- The bits of `B` an operation code reads (R64): those of ENCTUP and of the two-operand comparisons. -/
def readsB (op : OpCode) : Quad :=
  if op = 0x01#8 then ones 0 17
  else if 0x30#8 ≤ op ∧ op ≤ 0x37#8 then ones 0 128
  else 0#128

/-- The bits of `R` an operation code drives (R64); `HASHW` is the open parameter. -/
def drivesR (op : OpCode) : Quad :=
  match op.toNat with
  | 0x10 => ones 0 112
  | 0x20 => ones 0 9
  | 0x37 => ones 0 2
  | 0x38 => ones 0 128
  | 0x39 => ones 0 Config.hashWidth
  | 0xA0 => ones 0 7
  | 0xB0 => ones 0 16
  | 0xB1 => ones 0 15
  | n =>
    if reservedOp op then 0#128
    else if (0x21 ≤ n ∧ n ≤ 0x29) ∨ (0x30 ≤ n ∧ n ≤ 0x36) then ones 0 1
    else ones 0 128

/-- `s` after an answer: the outputs change and nothing else does (R64, R100). -/
def answered (s : State) (R : Quad) (X : BitVec 32) : State := { s with R := R, X := X, invalid := false }

/-- `s` after a predicate or a comparison: `R[0]` is its truth and every other result bit is 0 (R130, R150). -/
def truth (s : State) (p : Prop) [Decidable p] : State := answered s (if p then 1#128 else 0#128) 0#32

/-- `s` after `InvalidOperation` (R301). -/
def rejected (s : State) : State := { s with R := 0#128, X := 0#32, invalid := true }

/-- The exponent field as a number (R17). -/
def expField (q : Quad) : Nat := q.toNat / 2 ^ 112 % 2 ^ 15

/-- The trailing significand as a number (R17). -/
def fracField (q : Quad) : Nat := q.toNat % 2 ^ 112

/-- The sign bit is set (R17). -/
abbrev Negative (q : Quad) : Prop := 2 ^ 127 ≤ q.toNat

/-- A NaN pattern (R29 (d)). -/
abbrev NanPattern (q : Quad) : Prop := expField q = 0x7FFF ∧ fracField q ≠ 0

/-- A zero pattern (R29 (c)). -/
abbrev ZeroPattern (q : Quad) : Prop := expField q = 0 ∧ fracField q = 0

/-- Signed magnitude of a pattern: the 127 bits below the sign, negated for a negative value. The numeric order of non-NaN
values is the order of this number (R154). -/
def key (q : Quad) : Int := if Negative q then -((q.toNat - 2 ^ 127 : Nat) : Int) else q.toNat

/-- The truth an operation answers on `R[0]`. -/
def yes (o : Host.Outcome State Fault Refusal) : Bool :=
  match o with
  | .next t => t.R.getLsbD 0
  | .fault _ | .refused _ => false

/-- The main result an operation answers. -/
def resultOf (o : Host.Outcome State Fault Refusal) : Option Quad :=
  match o with
  | .next t => some t.R
  | .fault _ | .refused _ => none

/-- The order CMP answers on `R[1:0]`, a signed 2-bit number (R161). -/
def orderOf (o : Host.Outcome State Fault Refusal) : Int :=
  match o with
  | .next t => (t.R.extractLsb' 0 2).toInt
  | .fault _ | .refused _ => 0

/-- `q` is the conversion of the source pattern `p` with `E` exponent and `F` fraction bits and bias `b`, field by field: signed
zero; infinity and NaN; normal source; subnormal source, `sh` the shift that takes its leading 1 to bit `F` (R202 to R206). -/
def FloatImported (E F b p q : Nat) : Prop :=
  let sg := p / 2 ^ (E + F)
  let be := p / 2 ^ F % 2 ^ E
  let f := p % 2 ^ F
  (be = 0 → f = 0 → q = sg * 2 ^ 127) ∧
  (be = 2 ^ E - 1 → q = sg * 2 ^ 127 + 0x7FFF * 2 ^ 112 + f * 2 ^ (112 - F)) ∧
  (0 < be → be < 2 ^ E - 1 → q = sg * 2 ^ 127 + (be + 16383 - b) * 2 ^ 112 + f * 2 ^ (112 - F)) ∧
  (∀ sh, be = 0 → 1 ≤ sh → 2 ^ F ≤ f * 2 ^ sh → f * 2 ^ sh < 2 ^ (F + 1) →
    q = sg * 2 ^ 127 + (16384 - b - sh) * 2 ^ 112 + (f * 2 ^ sh - 2 ^ F) * 2 ^ (112 - F))

/-- `q` is the conversion of the integer `n`, field by field, `x` the position of the leading 1 of its magnitude (R220 to
R222). -/
def IntegerImported (n : Int) (q : Nat) : Prop :=
  (n = 0 → q = 0) ∧
  (∀ x, 2 ^ x ≤ n.natAbs → n.natAbs < 2 ^ (x + 1) →
    q = (if n < 0 then 2 ^ 127 else 0) + (16383 + x) * 2 ^ 112 + (n.natAbs - 2 ^ x) * 2 ^ (112 - x))

/-- The number a finite denotation stands for. -/
def finiteValue (d : Denotation) : Option ℚ :=
  match d with
  | .zero _ => some 0
  | .number v => some v
  | .nan => none
  | .infinity _ => none

/-- The bits of `X` an operation code drives: all of them for DEC, none otherwise (R64). -/
def drivesX (op : OpCode) : BitVec 32 := if op = 0x10#8 then 0xFFFFFFFF#32 else 0#32

end Sys2Proof.Safety
end

