-- ==== Sys2Proof/Certificates/Slice0/Obligations.lean ====
section
/-! DEFINITION. The statements for the provers. Each docstring names the rule of spec/ it formalises. -/

open Sys2Proof Sys2Proof.Machine Sys2Proof.Safety

/-! ### Decoding and the step -/

/-- R60, R62 (derived: they say how a request decodes; the step is the model's): the step runs the instruction decoded from the request on the input ports, and moves nothing around it. -/
def Obligations.StepRunsDecodedInstruction : Prop :=
  ∀ (s : State) (i : Instr), decode ⟨s.op, s.A, s.B⟩ = .ok i → step s = exec i s

/-- R67: the listed codes, 223 of them, are rejected by name and raise `InvalidOperation`; every other code decodes, to an
instruction of that very code, so none aliases another. -/
def Obligations.ReservedCodesRaiseInvalidOperation : Prop :=
  (∀ s : State, reservedOp s.op = true →
    decode s.request = .error (.reservedOp s.op) ∧ step s = .next (rejected s)) ∧
  (∀ s : State, reservedOp s.op = false → ∃ i, decode s.request = .ok i ∧ (encode i).op = s.op) ∧
  ((List.range 256).filter (fun n => reservedOp (BitVec.ofNat 8 n))).length = 223

/-- R63, R64: words written out from the spec's encodings, one or more of each family, decode to what they stand for. -/
def Obligations.SampleWordsDecode : Prop :=
  decode ⟨0x00#8, 0x3FFF000000000000_0000000000000001#128, 0xFFFFFFFFFFFFFFFF_FFFFFFFFFFFFFFFF#128⟩
    = .ok (.encraw 0x3FFF000000000000#64 1#64) ∧
  decode ⟨0x01#8, 0xFFFF400000000000_0000000000000003#128, 0x0000000000000000_0000000000018002#128⟩
    = .ok (.enctup true 0x8002#16 0x400000000000#48 3#64) ∧
  decode ⟨0x29#8, 0x8000000000000000_0000000000000001#128, 0x0000000000000000_0000000000000000#128⟩
    = .ok (.issubn 0x80000000000000000000000000000001#128) ∧
  decode ⟨0x37#8, 0x0000000000000000_0000000000000001#128, 0x0000000000000000_0000000000000002#128⟩
    = .ok (.cmp 1#128 2#128) ∧
  decode ⟨0x40#8, 0x0000000000000000_0000000000013C00#128, 0x0000000000000000_0000000000000000#128⟩
    = .ok (.f16toq 0x3C00#16) ∧
  decode ⟨0x80#8, 0x0000000000000001_FFFFFFFFFFFFFFFB#128, 0x0000000000000000_0000000000000000#128⟩
    = .ok (.i64toq 0xFFFFFFFFFFFFFFFB#64) ∧
  decode ⟨0xB0#8, 0x0000000000000000_0000000074F8FF06#128, 0x0000000000000000_0000000000000000#128⟩
    = .ok (.xrenorm 2#2 0x0FF#11 0x34#6)

/-- R63, R64: decoding an encoded instruction gives it back, with every operand at every value. -/
def Obligations.DecodeEncodeRoundTrip : Prop :=
  ∀ i : Instr, decode (encode i) = .ok i

/-- R60, R64, R69: encoding a decoded request gives the request with its ignored bits 0, and the 264-bit word loses nothing. -/
def Obligations.EncodeDecodeClearsIgnoredBits : Prop :=
  (∀ (r : Request) (i : Instr), decode r = .ok i → encode i = ⟨r.op, r.A &&& readsA r.op, r.B &&& readsB r.op⟩) ∧
  (∀ r : Request, Request.ofWord r.toWord = r) ∧ (∀ w, (Request.ofWord w).toWord = w)

/-- R301: the response is invalid exactly under the three conditions, and then it is `invalid = 1`, `R = 0`, `X = 0` and the
host reads a fault without a result. -/
def Obligations.InvalidOperationExactly : Prop :=
  ∀ s : State, ∃ t, step s = .next t ∧ t.request = s.request ∧
    (t.invalid = true ↔ invalidRequest s.request = true) ∧
    (invalidRequest s.request = true → t = rejected s ∧ answerOf t.response = .fault .invalidOperation)

/-- R68: a reserved sub-index (an ill-formed instruction) raises `InvalidOperation`; every other instruction answers. -/
def Obligations.ReservedSubIndexRaisesInvalidOperation : Prop :=
  (∀ (i : Instr) (s : State), i.wf = false → exec i s = .next (rejected s)) ∧
  (∀ (i : Instr) (s : State), i.wf = true → ∃ R X, exec i s = .next (answered s R X)) ∧
  (∀ i : Instr, i.wf = false ↔ (∃ k : BitVec 4, 13 ≤ k.toNat ∧ i = .const k) ∨ (∃ be s, i = .xrenorm 3#2 be s))

/-! ### The whole machine -/

/-- R20: the block is a total function of one request; a response depends on nothing else the ports hold. -/
def Obligations.ResponseDependsOnRequestOnly : Prop :=
  ∀ s s' : State, s.request = s'.request →
    ∃ t t', step s = .next t ∧ step s' = .next t' ∧ t.response = t'.response ∧ t.response = eval s.request

/-- FRAME, all 33 instructions: each completes in a next state (never a fault, never a refusal) in which the input ports are
as before; only DEC drives `X` (R26, R64, R108). -/
def Obligations.EveryInstructionCompletesAndKeepsInputs : Prop :=
  ∀ (i : Instr) (s : State), ∃ t, exec i s = .next t ∧ t.op = s.op ∧ t.A = s.A ∧ t.B = s.B ∧
    ((∀ q, i ≠ .dec q) → t.X = 0#32)

/-- R26, R64: bits of `A` and `B` that an operation does not read do not influence the response. -/
def Obligations.IgnoredOperandBitsHaveNoInfluence : Prop :=
  ∀ s s' : State, s.op = s'.op → s.A &&& readsA s.op = s'.A &&& readsA s.op →
    s.B &&& readsB s.op = s'.B &&& readsB s.op →
    ∃ t t', step s = .next t ∧ step s' = .next t' ∧ t.response = t'.response

/-- R26, R64: bits of `R` and `X` that an operation does not drive are 0. -/
def Obligations.UndrivenResultBitsAreZero : Prop :=
  ∀ s : State, ∃ t, step s = .next t ∧ t.R &&& ~~~(drivesR s.op) = 0#128 ∧ t.X &&& ~~~(drivesX s.op) = 0#32

/-- R20: a run of a program is the list of its responses, each the response `eval` gives its own request, from any state. -/
def Obligations.ProgramRunIsListOfResponses : Prop :=
  ∀ (s : State) (rs : List Request), runRequests s rs = rs.map eval

/-- R20, R305, and log entry 9 for what a host is (the model's choice: any function from the answers so far to the next request):
no host, however it forwards answers and branches, can tell from which state a run started, so nothing an earlier request did
is visible. -/
def Obligations.HostCannotSeeHistory : Prop :=
  ∀ (host : List Answer → Option Request) (n : Nat) (s s' : State) (past : List Answer),
    runHost host n s past = runHost host n s' past

/-- R46: requests may be evaluated in any order and every request still receives its response. -/
def Obligations.RequestsMayBeReordered : Prop :=
  ∀ (s s' : State) (rs rs' : List Request), rs.Perm rs' →
    (rs.zip (runRequests s rs)).Perm (rs'.zip (runRequests s' rs'))

/-- R44: every operation is idempotent. -/
def Obligations.RepeatingARequestChangesNothing : Prop :=
  ∀ s t : State, step s = .next t → step t = .next t

/-- R32, and log entry 2 for the values: at the model's reset the outputs are the function of the inputs. -/
def Obligations.ResetIsSettled : Prop := Settled State.reset

/-- R32: after every step the outputs are the function of the inputs, and a state in which they are is left as it is. -/
def Obligations.EveryStepSettles : Prop :=
  (∀ s t : State, step s = .next t → Settled t) ∧ (∀ s : State, Settled s → step s = .next s)

/-- R301, R302: a run of well-formed instructions is safe, each request answered with a result. -/
def Obligations.WellFormedProgramsAreSafe : Prop :=
  ∀ is : List Instr, (∀ i ∈ is, i.wf = true) →
    SafeRun (is.map encode) ∧ ∀ s r, r ∈ runRequests s (is.map encode) → ∃ R X, answerOf r = .result R X

/-! ### Codec -/

/-- R101: the raw constructor stores its words, and is the identity on `A`. -/
def Obligations.EncrawIsTheIdentity : Prop :=
  (∀ (s : State) (u l : Word), exec (.encraw u l) s = .next (answered s (u ++ l) 0#32)) ∧
  (∀ s : State, s.op = 0x00#8 → step s = .next (answered s s.A 0#32))

/-- R102: the tuple constructor places sign, re-biased exponent and significand. -/
def Obligations.EnctupPlacesFields : Prop :=
  ∀ (s : State) (sg : Bool) (e : BitVec 16) (su : BitVec 48) (sl : Word), ∃ q : Quad,
    exec (.enctup sg e su sl) s = .next (answered s q 0#32) ∧
    q.getLsbD 127 = sg ∧
    ((q.extractLsb' 112 15).toNat : Int) = (e.toInt + 16383) % 2 ^ 15 ∧
    q.extractLsb' 64 48 = su ∧ q.extractLsb' 0 64 = sl

/-- R103, whose last sentence is the spec's own inference: in-range exponents map to the field without wrap; otherwise the sum wraps; the result depends on the low 15 bits of
the exponent only, and tells them apart. -/
def Obligations.EnctupExponentWraps : Prop :=
  ∀ (s : State) (sg : Bool) (e e' : BitVec 16) (su : BitVec 48) (sl : Word),
    (∃ q, exec (.enctup sg e su sl) s = .next (answered s q 0#32) ∧
      (expField q : Int) = (e.toInt + 16383) % 32768 ∧
      (-16383 ≤ e.toInt → e.toInt ≤ 16384 → (expField q : Int) = e.toInt + 16383)) ∧
    (exec (.enctup sg e su sl) s = exec (.enctup sg e' su sl) s ↔ e.extractLsb' 0 15 = e'.extractLsb' 0 15)

/-- R105, R30: CONST reads the thirteen entries of the table, three of them open parameters, and rejects indices 13 to 15. -/
def Obligations.ConstReadsTheTable : Prop :=
  ∀ s : State,
    exec (.const 0#4) s = .next (answered s 0x00000000000000000000000000000000#128 0#32) ∧
    exec (.const 1#4) s = .next (answered s 0x80000000000000000000000000000000#128 0#32) ∧
    exec (.const 2#4) s = .next (answered s 0x3FFF0000000000000000000000000000#128 0#32) ∧
    exec (.const 3#4) s = .next (answered s 0xBFFF0000000000000000000000000000#128 0#32) ∧
    exec (.const 4#4) s = .next (answered s 0x7FFEFFFFFFFFFFFFFFFFFFFFFFFFFFFF#128 0#32) ∧
    exec (.const 5#4) s = .next (answered s 0xFFFEFFFFFFFFFFFFFFFFFFFFFFFFFFFF#128 0#32) ∧
    exec (.const 6#4) s = .next (answered s 0x00000000000000000000000000000001#128 0#32) ∧
    exec (.const 7#4) s = .next (answered s 0xFFFF8000000000000000000000000000#128 0#32) ∧
    exec (.const 8#4) s = .next (answered s 0x7FFF0000000000000000000000000000#128 0#32) ∧
    exec (.const 9#4) s = .next (answered s 0xFFFF0000000000000000000000000000#128 0#32) ∧
    exec (.const 10#4) s = .next (answered s Config.constPi 0#32) ∧
    exec (.const 11#4) s = .next (answered s Config.constTau 0#32) ∧
    exec (.const 12#4) s = .next (answered s Config.constE 0#32) ∧
    exec (.const 13#4) s = .next (rejected s) ∧
    exec (.const 14#4) s = .next (rejected s) ∧
    exec (.const 15#4) s = .next (rejected s)

/-- The spec's own inference in R31: `MaxValue` and `MinValue` bound the finite values under LT, `Epsilon` is the least above zero, and the suggested
patterns of the open constants are normal (log entry 4). -/
def Obligations.ConstantsBoundTheFiniteValues : Prop :=
  ∀ (s : State) (q : Quad),
    (expField q ≠ 0x7FFF →
      yes (exec (.lt 0x7FFEFFFFFFFFFFFFFFFFFFFFFFFFFFFF#128 q) s) = false ∧
      yes (exec (.lt q 0xFFFEFFFFFFFFFFFFFFFFFFFFFFFFFFFF#128) s) = false) ∧
    (yes (exec (.lt 0#128 q) s) = true → yes (exec (.lt q 1#128) s) = false) ∧
    yes (exec (.lt 0#128 1#128) s) = true ∧
    (q = suggestedPi ∨ q = suggestedTau ∨ q = suggestedE → yes (exec (.isnormal q) s) = true)

/-- R106: DEC takes a value apart, the unbiased exponent a signed 16-bit number from -16383 to 16384. -/
def Obligations.DecExtractsFields : Prop :=
  ∀ (s : State) (q : Quad), ∃ x : BitVec 32,
    exec (.dec q) s = .next (answered s (BitVec.ofNat 128 (fracField q)) x) ∧
    (x.extractLsb' 0 15).toNat = expField q ∧ x.getLsbD 15 = q.getLsbD 127 ∧
    (x.extractLsb' 16 16).toInt = (expField q : Int) - 16383 ∧ x.extractLsb' 0 16 = q.extractLsb' 112 16

/-- The spec's own inference in R107: (a) ENCTUP undoes DEC; (b) DEC undoes ENCTUP, up to the wrap for an exponent out of range; (c) ENCRAW of the two
words is the value. -/
def Obligations.DecEnctupRoundTrips : Prop :=
  (∀ (s s' : State) (q : Quad), ∃ r x, exec (.dec q) s = .next (answered s r x) ∧
    exec (.enctup (x.getLsbD 15) (x.extractLsb' 16 16) (r.extractLsb' 64 48) (r.extractLsb' 0 64)) s'
      = .next (answered s' q 0#32)) ∧
  (∀ (s s' : State) (sg : Bool) (e : BitVec 16) (su : BitVec 48) (sl : Word), ∃ q r x,
    exec (.enctup sg e su sl) s = .next (answered s q 0#32) ∧ exec (.dec q) s' = .next (answered s' r x) ∧
    x.getLsbD 15 = sg ∧ r.extractLsb' 64 48 = su ∧ r.extractLsb' 0 64 = sl ∧
    (-16383 ≤ e.toInt → e.toInt ≤ 16384 → x.extractLsb' 16 16 = e) ∧
    -16383 ≤ (x.extractLsb' 16 16).toInt ∧ (x.extractLsb' 16 16).toInt ≤ 16384 ∧
    (x.extractLsb' 16 16).toInt % 32768 = e.toInt % 32768) ∧
  (∀ (s : State) (q : Quad), exec (.encraw (q.extractLsb' 64 64) (q.extractLsb' 0 64)) s = .next (answered s q 0#32))

/-! ### Classifier -/

/-- R130 to R139: the nine predicates, each from the exponent field, the significand and the sign. -/
def Obligations.PredicatesFollowTheFields : Prop :=
  ∀ (s : State) (q : Quad),
    exec (.iszero q) s = .next (truth s (expField q = 0 ∧ fracField q = 0)) ∧
    exec (.isfinite q) s = .next (truth s (expField q ≠ 0x7FFF)) ∧
    exec (.isinf q) s = .next (truth s (expField q = 0x7FFF ∧ fracField q = 0)) ∧
    exec (.ispinf q) s = .next (truth s (expField q = 0x7FFF ∧ fracField q = 0 ∧ ¬ Negative q)) ∧
    exec (.isninf q) s = .next (truth s (expField q = 0x7FFF ∧ fracField q = 0 ∧ Negative q)) ∧
    exec (.isnan q) s = .next (truth s (expField q = 0x7FFF ∧ fracField q ≠ 0)) ∧
    exec (.isneg q) s = .next (truth s (Negative q)) ∧
    exec (.isnormal q) s = .next (truth s (1 ≤ expField q ∧ expField q ≤ 0x7FFE)) ∧
    exec (.issubn q) s = .next (truth s (expField q = 0 ∧ fracField q ≠ 0))

/-- R140: CLASS packs the nine predicates, each equal to what its own operation answers, in bits 8:0. -/
def Obligations.ClassPacksTheNinePredicates : Prop :=
  ∀ (s : State) (q : Quad), ∃ r : Quad,
    exec (.classify q) s = .next (answered s r 0#32) ∧
    r.getLsbD 0 = yes (exec (.iszero q) s) ∧ r.getLsbD 1 = yes (exec (.isfinite q) s) ∧
    r.getLsbD 2 = yes (exec (.isinf q) s) ∧ r.getLsbD 3 = yes (exec (.ispinf q) s) ∧
    r.getLsbD 4 = yes (exec (.isninf q) s) ∧ r.getLsbD 5 = yes (exec (.isnan q) s) ∧
    r.getLsbD 6 = yes (exec (.isneg q) s) ∧ r.getLsbD 7 = yes (exec (.isnormal q) s) ∧
    r.getLsbD 8 = yes (exec (.issubn q) s) ∧ r.toNat < 2 ^ 9

/-- The spec's own inference in R141 and R140: exactly one of NaN, infinity, zero, normal, subnormal holds of every pattern, the
others are determined by them, and CLASS takes exactly ten values. -/
def Obligations.ClassesPartitionThePatterns : Prop :=
  (∀ (s : State) (q : Quad),
    ([yes (exec (.isnan q) s), yes (exec (.isinf q) s), yes (exec (.iszero q) s), yes (exec (.isnormal q) s),
      yes (exec (.issubn q) s)].count true = 1) ∧
    yes (exec (.isfinite q) s)
      = (yes (exec (.iszero q) s) || yes (exec (.issubn q) s) || yes (exec (.isnormal q) s)) ∧
    yes (exec (.ispinf q) s) = (yes (exec (.isinf q) s) && !yes (exec (.isneg q) s)) ∧
    yes (exec (.isninf q) s) = (yes (exec (.isinf q) s) && yes (exec (.isneg q) s))) ∧
  (∀ (s : State) (r : Quad), (∃ q, exec (.classify q) s = .next (answered s r 0#32)) ↔
    r.toNat ∈ [0x003, 0x043, 0x102, 0x142, 0x082, 0x0C2, 0x00C, 0x054, 0x020, 0x060])

/-! ### Comparator -/

/-- R152, R153: `==` holds of identical non-NaN patterns and of any two zeros; `!=` is its negation. -/
def Obligations.EqualityTreatsZerosAsEqualAndNanAsUnequal : Prop :=
  ∀ (s : State) (a b : Quad),
    exec (.eq a b) s
      = .next (truth s ((¬ NanPattern a ∧ ¬ NanPattern b ∧ a = b) ∨ (ZeroPattern a ∧ ZeroPattern b))) ∧
    exec (.ne a b) s
      = .next (truth s (¬ ((¬ NanPattern a ∧ ¬ NanPattern b ∧ a = b) ∨ (ZeroPattern a ∧ ZeroPattern b))))

/-- R155 to R158, with R154's words: unordered with a NaN; signs differ, the negative operand is the smaller unless both are
zero; signs match, the unsigned order, flipped when both are negative. -/
def Obligations.RelationalOperatorsFollowTheProcedure : Prop :=
  ∀ (s : State) (a b : Quad),
    (NanPattern a ∨ NanPattern b →
      exec (.lt a b) s = .next (answered s 0#128 0#32) ∧ exec (.le a b) s = .next (answered s 0#128 0#32)) ∧
    (¬ NanPattern a → ¬ NanPattern b →
      (ZeroPattern a → ZeroPattern b → (Negative a ↔ ¬ Negative b) →
        exec (.lt a b) s = .next (answered s 0#128 0#32) ∧ exec (.le a b) s = .next (answered s 1#128 0#32)) ∧
      (¬ (ZeroPattern a ∧ ZeroPattern b) → (Negative a ↔ ¬ Negative b) →
        exec (.lt a b) s = .next (truth s (Negative a)) ∧ exec (.le a b) s = .next (truth s (Negative a))) ∧
      (¬ Negative a → ¬ Negative b →
        exec (.lt a b) s = .next (truth s (a.toNat < b.toNat)) ∧
        exec (.le a b) s = .next (truth s (a.toNat ≤ b.toNat))) ∧
      (Negative a → Negative b →
        exec (.lt a b) s = .next (truth s (b.toNat < a.toNat)) ∧
        exec (.le a b) s = .next (truth s (b.toNat ≤ a.toNat)))) ∧
    exec (.gt a b) s = exec (.lt b a) s ∧ exec (.ge a b) s = exec (.le b a) s

/-- Derived from R154 to R158: the relational operators are the order of the signed magnitudes on non-NaN values; and the
spec's own inference in R156: `<=` is `<` or `==`. -/
def Obligations.RelationalOperatorsAreTheSignedMagnitudeOrder : Prop :=
  ∀ (s : State) (a b : Quad),
    exec (.lt a b) s = .next (truth s (¬ NanPattern a ∧ ¬ NanPattern b ∧ key a < key b)) ∧
    exec (.le a b) s = .next (truth s (¬ NanPattern a ∧ ¬ NanPattern b ∧ key a ≤ key b)) ∧
    exec (.gt a b) s = .next (truth s (¬ NanPattern a ∧ ¬ NanPattern b ∧ key b < key a)) ∧
    exec (.ge a b) s = .next (truth s (¬ NanPattern a ∧ ¬ NanPattern b ∧ key b ≤ key a)) ∧
    yes (exec (.le a b) s) = (yes (exec (.lt a b) s) || yes (exec (.eq a b) s)) ∧
    yes (exec (.ge a b) s) = (yes (exec (.gt a b) s) || yes (exec (.eq a b) s))

/-- R159: trichotomy for non-NaN operands; with a NaN all are false but `!=`. -/
def Obligations.TrichotomyOfComparisons : Prop :=
  ∀ (s : State) (a b : Quad),
    (¬ NanPattern a → ¬ NanPattern b →
      [yes (exec (.lt a b) s), yes (exec (.eq a b) s), yes (exec (.gt a b) s)].count true = 1) ∧
    (NanPattern a ∨ NanPattern b →
      yes (exec (.eq a b) s) = false ∧ yes (exec (.lt a b) s) = false ∧ yes (exec (.le a b) s) = false ∧
      yes (exec (.gt a b) s) = false ∧ yes (exec (.ge a b) s) = false ∧ yes (exec (.ne a b) s) = true)

/-- R28, R154 (the number a pattern denotes is log entry 11): on finite values `<` and `==` are those of the numbers. -/
def Obligations.ComparisonsAgreeWithTheNumbersDenoted : Prop :=
  ∀ (s : State) (a b : Quad) (x y : ℚ), finiteValue (denote a) = some x → finiteValue (denote b) = some y →
    (yes (exec (.lt a b) s) = true ↔ x < y) ∧ (yes (exec (.eq a b) s) = true ↔ x = y)

/-- R160: `Equals` is `==` with all NaNs mutually equal. -/
def Obligations.EqualsMakesAllNansEqual : Prop :=
  ∀ (s : State) (a b : Quad), exec (.equals a b) s
    = .next (truth s ((¬ NanPattern a ∧ ¬ NanPattern b ∧ a = b) ∨ (ZeroPattern a ∧ ZeroPattern b)
        ∨ (NanPattern a ∧ NanPattern b)))

/-- The spec's own inference in R160: `Equals` is reflexive, symmetric and transitive on all patterns. -/
def Obligations.EqualsIsAnEquivalence : Prop :=
  (∀ (s : State) (a : Quad), yes (exec (.equals a a) s) = true) ∧
  (∀ (s : State) (a b : Quad), yes (exec (.equals a b) s) = yes (exec (.equals b a) s)) ∧
  (∀ (s : State) (a b c : Quad), yes (exec (.equals a b) s) = true → yes (exec (.equals b c) s) = true →
    yes (exec (.equals a c) s) = true)

/-- R163: `==` and `Equals` differ exactly on pairs of NaNs. -/
def Obligations.EqAndEqualsDifferExactlyOnNanPairs : Prop :=
  ∀ (s : State) (a b : Quad),
    exec (.eq a b) s ≠ exec (.equals a b) s ↔ NanPattern a ∧ NanPattern b

/-- R161: three-way compare: -1, 0 or +1 by `<`, `>` and `==`, NaN greater than every non-NaN and equal to NaN. -/
def Obligations.CmpAnswersTheThreeWayOrder : Prop :=
  ∀ (s : State) (a b : Quad), ∃ r : BitVec 2,
    exec (.cmp a b) s = .next (answered s (r.setWidth 128) 0#32) ∧
    (yes (exec (.lt a b) s) = true → r = 0b11#2) ∧
    (yes (exec (.gt a b) s) = true → r = 0b01#2) ∧
    (yes (exec (.eq a b) s) = true → r = 0b00#2) ∧
    (NanPattern a → NanPattern b → r = 0b00#2) ∧
    (NanPattern a → ¬ NanPattern b → r = 0b01#2) ∧
    (¬ NanPattern a → NanPattern b → r = 0b11#2)

/-- The spec's own inference in R162: CMP is a total preorder whose ties are the classes of EQUALS, ordered by signed magnitude
with all NaNs last. -/
def Obligations.CmpIsATotalPreorder : Prop :=
  (∀ (s : State) (a b : Quad), orderOf (exec (.cmp a b) s) = 0 ↔ yes (exec (.equals a b) s) = true) ∧
  (∀ (s : State) (a b : Quad), orderOf (exec (.cmp a b) s) = -orderOf (exec (.cmp b a) s)) ∧
  (∀ (s : State) (a b c : Quad), orderOf (exec (.cmp a b) s) ≤ 0 → orderOf (exec (.cmp b c) s) ≤ 0 →
    orderOf (exec (.cmp a c) s) ≤ 0) ∧
  (∀ (s : State) (a b : Quad), orderOf (exec (.cmp a b) s) ≤ 0 ∨ orderOf (exec (.cmp b a) s) ≤ 0) ∧
  (∀ (s : State) (a b : Quad), orderOf (exec (.cmp a b) s) ≤ 0 ↔
    NanPattern b ∨ (¬ NanPattern a ∧ key a ≤ key b))

/-- R165: canonicalisation, and that it is idempotent. -/
def Obligations.CanonMapsToTheRepresentative : Prop :=
  ∀ (s : State) (q : Quad), ∃ c : Quad,
    exec (.canon q) s = .next (answered s c 0#32) ∧
    (NanPattern q → c = 0xFFFF8000000000000000000000000000#128) ∧
    (ZeroPattern q → c = 0#128) ∧
    (¬ NanPattern q → ¬ ZeroPattern q → c = q) ∧
    exec (.canon c) s = .next (answered s c 0#32)

/-- R166: HASH is the open combining function of the words of the canonical value, zero-extended from HASHW bits, a width from
1 to 128 (log entry 5): it holds for every combining function. -/
def Obligations.HashCombinesTheCanonicalWords : Prop :=
  (∀ (s : State) (q : Quad), ∃ c : Quad, exec (.canon q) s = .next (answered s c 0#32) ∧
    exec (.hash q) s = .next (answered s
      ((Config.hashCombine (c.extractLsb' 64 64) (c.extractLsb' 0 64)).setWidth 128) 0#32)) ∧
  1 ≤ Config.hashWidth ∧ Config.hashWidth ≤ 128

/-- The spec's own inference in R167: EQUALS holds exactly when the canonical values agree, and then the hashes agree. -/
def Obligations.EqualValuesHashAlike : Prop :=
  ∀ (s : State) (a b : Quad),
    (yes (exec (.equals a b) s) = true ↔ exec (.canon a) s = exec (.canon b) s) ∧
    (yes (exec (.equals a b) s) = true → exec (.hash a) s = exec (.hash b) s)

/-! ### Helpers -/

/-- R180: the count is 64 at zero, else 63 minus the index of the most significant 1 bit. -/
def Obligations.LzcCountsLeadingZeros : Prop :=
  ∀ (s : State) (v : Word),
    (v = 0#64 → exec (.lzc64 v) s = .next (answered s 64#128 0#32)) ∧
    (v ≠ 0#64 → ∃ p, p ≤ 63 ∧ v.getLsbD p = true ∧ (∀ j, p < j → v.getLsbD j = false) ∧
      exec (.lzc64 v) s = .next (answered s (BitVec.ofNat 128 (63 - p)) 0#32))

/-- R182: XRENORM, for each format and with format 3 rejected; the integer fits 16 signed bits, so nothing wraps. -/
def Obligations.XrenormUnbiasesTheSourceExponent : Prop :=
  ∀ (s : State) (fmt : BitVec 2) (be : BitVec 11) (sh : BitVec 6),
    (fmt = 3#2 → exec (.xrenorm fmt be sh) s = .next (rejected s)) ∧
    (∀ E b : Nat, (fmt, E, b) ∈ [(0#2, 5, 15), (1#2, 8, 127), (2#2, 11, 1023)] →
      ∃ r : BitVec 16, exec (.xrenorm fmt be sh) s = .next (answered s (r.setWidth 128) 0#32) ∧
        r.toInt = if be.toNat % 2 ^ E = 2 ^ E - 1 then 16384
          else if be.toNat % 2 ^ E = 0 then 1 - (b : Int) - sh.toNat
          else (be.toNat % 2 ^ E : Nat) - (b : Int))

/-- R183: REBIAS adds the bias and keeps 15 bits. -/
def Obligations.RebiasWrapsToFifteenBits : Prop :=
  ∀ (s : State) (e : BitVec 16), ∃ r : Quad, exec (.rebias e) s = .next (answered s r 0#32) ∧
    (r.toNat : Int) = (e.toInt + 16383) % 2 ^ 15

/-- The spec's own inference in R184: REBIAS of XRENORM never wraps on an in-use input (a shift of at most the fraction width), so the field is a normal
one, and a special source gives `0x7FFF`. -/
def Obligations.RenormThenRebiasNeverWraps : Prop :=
  ∀ (s : State) (fmt : BitVec 2) (be : BitVec 11) (sh : BitVec 6) (E F : Nat),
    (fmt, E, F) ∈ [(0#2, 5, 10), (1#2, 8, 23), (2#2, 11, 52)] → sh.toNat ≤ F →
    ∃ (x : BitVec 16) (field : Quad), exec (.xrenorm fmt be sh) s = .next (answered s (x.setWidth 128) 0#32) ∧
      exec (.rebias x) s = .next (answered s field 0#32) ∧ (field.toNat : Int) = x.toInt + 16383 ∧
      (be.toNat % 2 ^ E = 2 ^ E - 1 → field.toNat = 0x7FFF) ∧
      (be.toNat % 2 ^ E ≠ 2 ^ E - 1 → 1 ≤ field.toNat ∧ field.toNat ≤ 0x7FFE)

/-! ### Float import -/

/-- R204 (field widths and bias: log entry 10): binary16, every class of source. -/
def Obligations.F16toqPlacesFields : Prop :=
  ∀ (s : State) (p : BitVec 16), ∃ q : Quad, exec (.f16toq p) s = .next (answered s q 0#32) ∧
    FloatImported 5 10 15 p.toNat q.toNat

/-- R205 (field widths and bias: log entry 10): binary32, every class of source. -/
def Obligations.F32toqPlacesFields : Prop :=
  ∀ (s : State) (p : BitVec 32), ∃ q : Quad, exec (.f32toq p) s = .next (answered s q 0#32) ∧
    FloatImported 8 23 127 p.toNat q.toNat

/-- R206 (field widths and bias: log entry 10): binary64, every class of source. -/
def Obligations.F64toqPlacesFields : Prop :=
  ∀ (s : State) (p : BitVec 64), ∃ q : Quad, exec (.f64toq p) s = .next (answered s q 0#32) ∧
    FloatImported 11 52 1023 p.toNat q.toNat

/-- R207 (the numbers denoted are log entries 10 and 11): the conversion is exact for every source, subnormals, infinities and
NaNs included. -/
def Obligations.FloatImportIsExact : Prop :=
  ∀ s : State,
    (∀ p : BitVec 16, ∃ q, exec (.f16toq p) s = .next (answered s q 0#32) ∧ denote q = denoteSource .binary16 p) ∧
    (∀ p : BitVec 32, ∃ q, exec (.f32toq p) s = .next (answered s q 0#32) ∧ denote q = denoteSource .binary32 p) ∧
    (∀ p : BitVec 64, ∃ q, exec (.f64toq p) s = .next (answered s q 0#32) ∧ denote q = denoteSource .binary64 p)

/-- R208, whose binary16 and binary32 cases are the spec's own inference: the class and the sign of a source are kept, and no result is subnormal. -/
def Obligations.FloatImportKeepsClassAndSign : Prop :=
  let kept (E F : Nat) (p : Nat) (q : Quad) : Prop :=
    (NanPattern q ↔ p / 2 ^ F % 2 ^ E = 2 ^ E - 1 ∧ p % 2 ^ F ≠ 0) ∧
    (expField q = 0x7FFF ∧ fracField q = 0 ↔ p / 2 ^ F % 2 ^ E = 2 ^ E - 1 ∧ p % 2 ^ F = 0) ∧
    (ZeroPattern q ↔ p / 2 ^ F % 2 ^ E = 0 ∧ p % 2 ^ F = 0) ∧
    (Negative q ↔ 2 ^ (E + F) ≤ p) ∧ ¬ (expField q = 0 ∧ fracField q ≠ 0)
  ∀ s : State,
    (∀ p : BitVec 16, ∃ q, exec (.f16toq p) s = .next (answered s q 0#32) ∧ kept 5 10 p.toNat q) ∧
    (∀ p : BitVec 32, ∃ q, exec (.f32toq p) s = .next (answered s q 0#32) ∧ kept 8 23 p.toNat q) ∧
    (∀ p : BitVec 64, ∃ q, exec (.f64toq p) s = .next (answered s q 0#32) ∧ kept 11 52 p.toNat q)

/-- R209: a NaN source keeps its sign and its fraction bits, at the top of the significand; the default quiet NaN of each
format, sign set, gives the constant `NaN`. -/
def Obligations.NanPayloadGoesToTheTop : Prop :=
  ∀ s : State,
    (∀ p : BitVec 16, p.toNat / 2 ^ 10 % 2 ^ 5 = 31 → p.toNat % 2 ^ 10 ≠ 0 →
      exec (.f16toq p) s = .next (answered s (BitVec.ofNat 128
        (p.toNat / 2 ^ 15 * 2 ^ 127 + 0x7FFF * 2 ^ 112 + p.toNat % 2 ^ 10 * 2 ^ 102)) 0#32)) ∧
    (∀ p : BitVec 32, p.toNat / 2 ^ 23 % 2 ^ 8 = 255 → p.toNat % 2 ^ 23 ≠ 0 →
      exec (.f32toq p) s = .next (answered s (BitVec.ofNat 128
        (p.toNat / 2 ^ 31 * 2 ^ 127 + 0x7FFF * 2 ^ 112 + p.toNat % 2 ^ 23 * 2 ^ 89)) 0#32)) ∧
    (∀ p : BitVec 64, p.toNat / 2 ^ 52 % 2 ^ 11 = 2047 → p.toNat % 2 ^ 52 ≠ 0 →
      exec (.f64toq p) s = .next (answered s (BitVec.ofNat 128
        (p.toNat / 2 ^ 63 * 2 ^ 127 + 0x7FFF * 2 ^ 112 + p.toNat % 2 ^ 52 * 2 ^ 60)) 0#32)) ∧
    exec (.f16toq 0xFE00#16) s = exec (.const 7#4) s ∧ exec (.f32toq 0xFFC00000#32) s = exec (.const 7#4) s ∧
    exec (.f64toq 0xFFF8000000000000#64) s = exec (.const 7#4) s

/-- R210, whose formulas are the spec's own inference: a finite source is reconstructed bit for bit from the converted value, normal and subnormal alike, and no two sources
of any class share a result. -/
def Obligations.FloatImportLosesNoBits : Prop :=
  let back (E F b p : Nat) (q : Quad) : Prop :=
    (0 < p / 2 ^ F % 2 ^ E → p / 2 ^ F % 2 ^ E < 2 ^ E - 1 →
      p % 2 ^ F = fracField q / 2 ^ (112 - F) ∧ p / 2 ^ F % 2 ^ E + 16383 = expField q + b) ∧
    (p / 2 ^ F % 2 ^ E = 0 → p % 2 ^ F ≠ 0 → ∃ sh : Nat, (sh : Int) = (1 - (b : Int)) - ((expField q : Int) - 16383) ∧
      p % 2 ^ F = (2 ^ F + fracField q / 2 ^ (112 - F)) / 2 ^ sh)
  ∀ s : State,
    (∀ p : BitVec 16, ∃ q, exec (.f16toq p) s = .next (answered s q 0#32) ∧ back 5 10 15 p.toNat q) ∧
    (∀ p : BitVec 32, ∃ q, exec (.f32toq p) s = .next (answered s q 0#32) ∧ back 8 23 127 p.toNat q) ∧
    (∀ p : BitVec 64, ∃ q, exec (.f64toq p) s = .next (answered s q 0#32) ∧ back 11 52 1023 p.toNat q) ∧
    (∀ p p' : BitVec 16, exec (.f16toq p) s = exec (.f16toq p') s → p = p') ∧
    (∀ p p' : BitVec 32, exec (.f32toq p) s = exec (.f32toq p') s → p = p') ∧
    (∀ p p' : BitVec 64, exec (.f64toq p) s = exec (.f64toq p') s → p = p')

/-! ### Integer import -/

/-- R223, R224, R225 (with R220 to R222): the three integer conversions, field by field. -/
def Obligations.IntegerImportPlacesFields : Prop :=
  ∀ s : State,
    (∀ n : BitVec 32, ∃ q : Quad, exec (.i32toq n) s = .next (answered s q 0#32) ∧ IntegerImported n.toInt q.toNat) ∧
    (∀ n : BitVec 64, ∃ q : Quad, exec (.i64toq n) s = .next (answered s q 0#32) ∧ IntegerImported n.toInt q.toNat) ∧
    (∀ n : BitVec 64, ∃ q : Quad, exec (.u64toq n) s = .next (answered s q 0#32) ∧
      IntegerImported (n.toNat : Int) q.toNat)

/-- The spec's own inference in R226 (the number denoted is log entry 11): the result denotes the integer. -/
def Obligations.IntegerImportIsExact : Prop :=
  ∀ s : State,
    (∀ n : BitVec 32, ∃ q, exec (.i32toq n) s = .next (answered s q 0#32) ∧ denote q = denoteInt n.toInt) ∧
    (∀ n : BitVec 64, ∃ q, exec (.i64toq n) s = .next (answered s q 0#32) ∧ denote q = denoteInt n.toInt) ∧
    (∀ n : BitVec 64, ∃ q, exec (.u64toq n) s = .next (answered s q 0#32) ∧ denote q = denoteInt n.toNat)

/-- R227, whose general form is the spec's own inference: a value and its negation, where representable, differ in the sign bit only. -/
def Obligations.NegatedIntegersDifferInTheSignBit : Prop :=
  ∀ s : State,
    (∀ n : BitVec 32, n ≠ 0#32 → n ≠ 0x80000000#32 → ∃ q, exec (.i32toq n) s = .next (answered s q 0#32) ∧
      exec (.i32toq (-n)) s = .next (answered s (q ^^^ 0x80000000000000000000000000000000#128) 0#32)) ∧
    (∀ n : BitVec 64, n ≠ 0#64 → n ≠ 0x8000000000000000#64 → ∃ q, exec (.i64toq n) s = .next (answered s q 0#32) ∧
      exec (.i64toq (-n)) s = .next (answered s (q ^^^ 0x80000000000000000000000000000000#128) 0#32))

/-- The spec's own inference in R228: an integer converts to zero, only for input 0, or to a normal value with exponent field `0x3FFF` to `0x403E`. -/
def Obligations.IntegerResultsAreZeroOrNormal : Prop :=
  let normal (q : Quad) : Prop := 0x3FFF ≤ expField q ∧ expField q ≤ 0x403E
  ∀ s : State,
    (∀ n : BitVec 32, ∃ q, exec (.i32toq n) s = .next (answered s q 0#32) ∧
      (n = 0#32 → q = 0#128) ∧ (n ≠ 0#32 → normal q)) ∧
    (∀ n : BitVec 64, ∃ q, exec (.i64toq n) s = .next (answered s q 0#32) ∧
      (n = 0#64 → q = 0#128) ∧ (n ≠ 0#64 → normal q)) ∧
    (∀ n : BitVec 64, ∃ q, exec (.u64toq n) s = .next (answered s q 0#32) ∧
      (n = 0#64 → q = 0#128) ∧ (n ≠ 0#64 → normal q))

/-- R224, R225 (derived sentences), R72: the units agree where their domains meet, and U32TOQ, an expansion to U64TOQ, is the
integer conversion at width 32. -/
def Obligations.IntegerUnitsAgree : Prop :=
  (∀ (s : State) (n : BitVec 32), exec (.i64toq (n.signExtend 64)) s = exec (.i32toq n) s) ∧
  (∀ (s : State) (n : BitVec 64), n.toNat < 2 ^ 63 → exec (.u64toq n) s = exec (.i64toq n) s) ∧
  (∀ x : BitVec 32, IntegerImported (x.toNat : Int) (pseudoU32toq x).toNat ∧ pseudoU32toq x = iimport false x)

/-! ### The host's pseudo-operations and the wire -/

/-- R71: what the pseudo-operations give. -/
def Obligations.PseudoOperationsExpand : Prop :=
  (∀ a b : Quad, pseudoAreZero a b = true ↔ ZeroPattern a ∧ ZeroPattern b) ∧
  (∀ q : Quad, pseudoMov q = q) ∧
  (∀ q : Quad, (pseudoGetSign q = true ↔ Negative q) ∧ (pseudoGetExp q).toNat = expField q ∧
    (pseudoGetSig q).toNat = fracField q)

/-- R41, R42: a serialised value has 16 bytes, the 8 of `upper` before the 8 of `lower`, whatever the open byte order. -/
def Obligations.SerialisedUpperWordFirst : Prop :=
  ∀ q : Quad, (serialise q).length = 16 ∧
    (serialise q).take 8 = wordBytes Config.serByteOrder (q.extractLsb' 64 64) ∧
    (serialise q).drop 8 = wordBytes Config.serByteOrder (q.extractLsb' 0 64)
end

