-- ==== Sys2Proof/Laws/Decode.lean ====
section
/-! SUPPORT. The operation-code map is unambiguous, and decoding looks at the operation code alone. -/

namespace Sys2Proof

/-- 33 rows, no two with one code (R63, R67: no code aliases another). -/
theorem opRows_codes_distinct : (opRows.map (·.code)).Nodup ∧ opRows.length = 33 := by decide

/-- A row found for a code is a row of the map with that very code. -/
theorem rowOf_code {op : OpCode} {row : OpRow} (h : rowOf op = some row) : row ∈ opRows ∧ row.code = op :=
  ⟨List.mem_of_find?_eq_some h, by simpa using List.find?_some h⟩

/-- Decoding by the row of the code. -/
theorem decode_of_row {r : Request} {row : OpRow} (h : rowOf r.op = some row) :
    decode r = .ok (row.operands r.A r.B) := by
  unfold decode
  rw [h]

/-- Decoding a code without a row. -/
theorem decode_of_no_row {r : Request} (h : rowOf r.op = none) : decode r = .error (.reservedOp r.op) := by
  unfold decode
  rw [h]

end Sys2Proof
end

