-- ==== Sys2Proof/Laws/State.lean ====
section
/-! SUPPORT. One lemma per field per update of State, each true by unfolding. -/

namespace Sys2Proof.Machine

variable (s : State) (r : Request) (p : Response) (q : Quad) (x : BitVec 32) (P : Prop) [Decidable P]

@[simp] theorem State.present_op : (s.present r).op = r.op := rfl
@[simp] theorem State.present_A : (s.present r).A = r.A := rfl
@[simp] theorem State.present_B : (s.present r).B = r.B := rfl
@[simp] theorem State.present_R : (s.present r).R = s.R := rfl
@[simp] theorem State.present_X : (s.present r).X = s.X := rfl
@[simp] theorem State.present_invalid : (s.present r).invalid = s.invalid := rfl

@[simp] theorem State.withResponse_op : (s.withResponse p).op = s.op := rfl
@[simp] theorem State.withResponse_A : (s.withResponse p).A = s.A := rfl
@[simp] theorem State.withResponse_B : (s.withResponse p).B = s.B := rfl
@[simp] theorem State.withResponse_R : (s.withResponse p).R = p.R := rfl
@[simp] theorem State.withResponse_X : (s.withResponse p).X = p.X := rfl
@[simp] theorem State.withResponse_invalid : (s.withResponse p).invalid = p.invalid := rfl

@[simp] theorem State.present_request : (s.present r).request = r := rfl
@[simp] theorem State.present_response : (s.present r).response = s.response := rfl
@[simp] theorem State.withResponse_request : (s.withResponse p).request = s.request := rfl
@[simp] theorem State.withResponse_response : (s.withResponse p).response = p := rfl
@[simp] theorem State.present_self : s.present s.request = s := rfl
@[simp] theorem State.withResponse_self : s.withResponse s.response = s := rfl
@[simp] theorem State.withResponse_withResponse (p' : Response) :
    (s.withResponse p).withResponse p' = s.withResponse p' := rfl
@[simp] theorem State.request_op : s.request.op = s.op := rfl
@[simp] theorem State.request_A : s.request.A = s.A := rfl
@[simp] theorem State.request_B : s.request.B = s.B := rfl
@[simp] theorem State.response_R : s.response.R = s.R := rfl
@[simp] theorem State.response_X : s.response.X = s.X := rfl
@[simp] theorem State.response_invalid : s.response.invalid = s.invalid := rfl

/-- A fetched word stands on the input ports and nothing else changes. -/
theorem State.withFetchWord_eq (nbits w : Nat) :
    s.withFetchWord nbits w = s.present (requestOfTableWord nbits w) := rfl

/-- Two states with the same request and the same response are one state: State holds nothing else. -/
theorem State.eq_of_ports {s t : State} (h : s.request = t.request) (h' : s.response = t.response) : s = t := by
  cases s
  cases t
  simp_all [State.request, State.response]

end Sys2Proof.Machine

namespace Sys2Proof.Safety

open Sys2Proof.Machine

variable (s : State) (q : Quad) (x : BitVec 32) (P : Prop) [Decidable P]

@[simp] theorem answered_op : (answered s q x).op = s.op := rfl
@[simp] theorem answered_A : (answered s q x).A = s.A := rfl
@[simp] theorem answered_B : (answered s q x).B = s.B := rfl
@[simp] theorem answered_R : (answered s q x).R = q := rfl
@[simp] theorem answered_X : (answered s q x).X = x := rfl
@[simp] theorem answered_invalid : (answered s q x).invalid = false := rfl
@[simp] theorem rejected_op : (rejected s).op = s.op := rfl
@[simp] theorem rejected_A : (rejected s).A = s.A := rfl
@[simp] theorem rejected_B : (rejected s).B = s.B := rfl
@[simp] theorem rejected_R : (rejected s).R = 0#128 := rfl
@[simp] theorem rejected_X : (rejected s).X = 0#32 := rfl
@[simp] theorem rejected_invalid : (rejected s).invalid = true := rfl

theorem truth_eq_answered : truth s P = answered s (if P then 1#128 else 0#128) 0#32 := rfl

/-- An answer determines its result and its auxiliary result. -/
theorem answered_inj {s : State} {q q' : Quad} {x x' : BitVec 32} (h : answered s q x = answered s q' x') :
    q = q' ∧ x = x' :=
  ⟨congrArg State.R h, congrArg State.X h⟩

end Sys2Proof.Safety
end

