-- ==== Sys2Proof/Laws/Ops.lean ====
section
/-! SUPPORT. One lemma per shared operation: what it answers, what it changes, what it computes. -/

namespace Sys2Proof.Machine

open Sys2Proof.Safety

/-- An answer with `R` alone leaves the inputs, puts 0 on `X` and clears `invalid`. -/
theorem answerR_eq (s : State) (q : Quad) : answerR s q = .next (answered s q 0#32) := rfl

/-- An answer with `R` and `X` leaves the inputs and clears `invalid`. -/
theorem answerRX_eq (s : State) (q : Quad) (x : BitVec 32) : answerRX s q x = .next (answered s q x) := rfl

/-- Taking `InvalidOperation` changes the outputs only, and the machine goes on. -/
theorem takeInvalidOperation_eq (s : State) : takeInvalidOperation s = .next (rejected s) := rfl

/-- A truth on `R[0]` is read back as it is. -/
@[simp] theorem onBit0_getLsbD_zero (b : Bool) : (onBit0 b).getLsbD 0 = b := by cases b <;> rfl

/-- Raw construction keeps both words. -/
theorem encRaw_words (u l : Word) : upper (encRaw u l) = u ∧ lower (encRaw u l) = l := by
  constructor
  · exact BitVec.extractLsb'_append_eq_left
  · exact BitVec.extractLsb'_append_eq_right

/-- The least significant 1 bit found from above: `leadingZerosBelow v n` counts the zeros over it, all of them when there is
none. -/
theorem leadingZerosBelow_spec (v : Word) (n : Nat) :
    leadingZerosBelow v n ≤ n ∧
    (∀ j, n - leadingZerosBelow v n ≤ j → j < n → v.getLsbD j = false) ∧
    (leadingZerosBelow v n < n → v.getLsbD (n - 1 - leadingZerosBelow v n) = true) := by
  induction n with
  | zero => simp [leadingZerosBelow]
  | succ n ih =>
    obtain ⟨hle, hzero, hone⟩ := ih
    by_cases hb : v.getLsbD n = true
    · simp only [leadingZerosBelow, hb, if_true]
      refine ⟨by omega, fun j h1 h2 => absurd h2 (by omega), fun _ => by simpa using hb⟩
    · have hb' : v.getLsbD n = false := by simpa using hb
      simp only [leadingZerosBelow, hb', Bool.false_eq_true, if_false]
      refine ⟨by omega, fun j h1 h2 => ?_, fun h => ?_⟩
      · rcases Nat.lt_or_ge j n with h | h
        · exact hzero j (by omega) h
        · rwa [show j = n by omega]
      · have := hone (by omega)
        rwa [show n + 1 - 1 - (leadingZerosBelow v n + 1) = n - 1 - leadingZerosBelow v n by omega]

/-- The count of a 64-bit word is at most 64. -/
theorem lzc64_le (v : Word) : lzc64 v ≤ 64 := (leadingZerosBelow_spec v 64).1

/-- Re-biasing as a number: the sum modulo `2^15`. -/
theorem rebias_toNat (e : BitVec 16) : ((rebias e).toNat : Int) = (e.toInt + 16383) % 2 ^ 15 := by
  simp only [rebias, bias, BitVec.toNat_ofInt]
  omega

/-- The sign, exponent field and significand words of a tuple construction. -/
theorem encTuple_fields (s : Bool) (e : BitVec 16) (su : BitVec 48) (sl : Word) :
    sign (encTuple s e su sl) = s ∧ bexp (encTuple s e su sl) = rebias e ∧
    sigu (encTuple s e su sl) = su ∧ sigl (encTuple s e su sl) = sl := by
  have hbit : ∀ i, (encTuple s e su sl).getLsbD i
      = if i < 64 then sl.getLsbD i else if i < 112 then su.getLsbD (i - 64)
        else if i < 127 then (rebias e).getLsbD (i - 112) else (BitVec.ofBool s).getLsbD (i - 127) := by
    intro i
    simp only [encTuple, BitVec.getLsbD_append]
    by_cases h1 : i < 64
    · simp only [h1, if_true]
    · by_cases h2 : i < 112
      · simp only [h1, h2, show i - 64 < 48 by omega, if_true, if_false]
      · have e1 : i - 64 - 48 = i - 112 := by omega
        by_cases h3 : i < 127
        · simp only [h1, h2, h3, show ¬ i - 64 < 48 by omega, e1, show i - 112 < 15 by omega, if_true, if_false]
        · have e2 : i - 112 - 15 = i - 127 := by omega
          simp only [h1, h2, h3, show ¬ i - 64 < 48 by omega, e1, e2, show ¬ i - 112 < 15 by omega, if_false]
  have hsign : sign (encTuple s e su sl) = s := by
    have h := hbit 127
    simp only [show ¬ (127 < 64) by omega, show ¬ (127 < 112) by omega, show ¬ (127 < 127) by omega, if_false] at h
    unfold sign
    rw [h]
    simp
  refine ⟨hsign, ?_, ?_, ?_⟩
  all_goals
    apply BitVec.eq_of_getLsbD_eq
    intro i hi
  · rw [bexp, BitVec.getLsbD_extractLsb', hbit]
    simp [hi, show ¬ 112 + i < 64 by omega, show 112 + i < 127 by omega]
  · rw [sigu, BitVec.getLsbD_extractLsb', hbit]
    simp [hi, show 64 + i < 112 by omega]
  · rw [sigl, BitVec.getLsbD_extractLsb', hbit]
    simp [hi]

/-- The canonical value by cases. -/
theorem canonical_cases (q : Quad) :
    (isNaN q = true ∧ canonical q = constNaN) ∨ (isNaN q = false ∧ isZero q = true ∧ canonical q = constZero) ∨
    (isNaN q = false ∧ isZero q = false ∧ canonical q = q) := by
  unfold canonical
  cases isNaN q <;> cases isZero q <;> simp

/-- Every index up to 12 reads an entry; the rest read none. -/
theorem constantAt_isSome (index : BitVec 4) : (constantAt index).isSome = decide (index.toNat ≤ 12) := by
  have hlen : constantTable.length = 13 := rfl
  by_cases h : index.toNat ≤ 12
  · simp [constantAt, hlen, h, show index.toNat < 13 by omega]
  · simp [constantAt, hlen, h, show 13 ≤ index.toNat by omega]

/-- Three formats, and the fourth is reserved. -/
theorem formatOf_isSome (fmt : BitVec 2) : (formatOf fmt).isSome = decide (fmt ≠ 3#2) := by
  revert fmt
  decide

end Sys2Proof.Machine
end

