-- ==== Sys2Proof/Laws/PerInstr.lean ====
section
/-! SUPPORT. A fact of every instruction as syntax, one lemma per constructor: the unit field of its code is the number of the
unit that answers it (spec/30_encoding.md R61; spec/00_scope.md R2). -/

namespace Sys2Proof.Laws.EncodedUnit

/-- `op[7:4]` of the encoded instruction numbers its unit. -/
def Statement (i : Instr) : Prop := unitOf (unitField (encode i).op) = some i.blockUnit

/-- The fact of an instruction from its code. -/
theorem named {i : Instr} {op : OpCode} (u : BlockUnit) (hop : (encode i).op = op) (hu : i.blockUnit = u)
    (h : unitOf (unitField op) = some u) : Statement i := by
  rw [Statement, hop, h, hu]

theorem encraw (upper lower : Word) : Statement (.encraw upper lower) :=
  named (op := 0x00#8) .binary128Encoder rfl rfl (by decide)
theorem enctup (sign : Bool) (exp : BitVec 16) (sigu : BitVec 48) (sigl : Word) : Statement (.enctup sign exp sigu sigl) :=
  named (op := 0x01#8) .binary128Encoder rfl rfl (by decide)
theorem const (index : BitVec 4) : Statement (.const index) :=
  named (op := 0x02#8) .binary128Encoder rfl rfl (by decide)
theorem dec (value : Quad) : Statement (.dec value) :=
  named (op := 0x10#8) .binary128Decoder rfl rfl (by decide)
theorem classify (value : Quad) : Statement (.classify value) :=
  named (op := 0x20#8) .binary128Classifier rfl rfl (by decide)
theorem iszero (value : Quad) : Statement (.iszero value) :=
  named (op := 0x21#8) .binary128Classifier rfl rfl (by decide)
theorem isfinite (value : Quad) : Statement (.isfinite value) :=
  named (op := 0x22#8) .binary128Classifier rfl rfl (by decide)
theorem isinf (value : Quad) : Statement (.isinf value) :=
  named (op := 0x23#8) .binary128Classifier rfl rfl (by decide)
theorem ispinf (value : Quad) : Statement (.ispinf value) :=
  named (op := 0x24#8) .binary128Classifier rfl rfl (by decide)
theorem isninf (value : Quad) : Statement (.isninf value) :=
  named (op := 0x25#8) .binary128Classifier rfl rfl (by decide)
theorem isnan (value : Quad) : Statement (.isnan value) :=
  named (op := 0x26#8) .binary128Classifier rfl rfl (by decide)
theorem isneg (value : Quad) : Statement (.isneg value) :=
  named (op := 0x27#8) .binary128Classifier rfl rfl (by decide)
theorem isnormal (value : Quad) : Statement (.isnormal value) :=
  named (op := 0x28#8) .binary128Classifier rfl rfl (by decide)
theorem issubn (value : Quad) : Statement (.issubn value) :=
  named (op := 0x29#8) .binary128Classifier rfl rfl (by decide)
theorem eq (a b : Quad) : Statement (.eq a b) :=
  named (op := 0x30#8) .binary128Comparator rfl rfl (by decide)
theorem ne (a b : Quad) : Statement (.ne a b) :=
  named (op := 0x31#8) .binary128Comparator rfl rfl (by decide)
theorem lt (a b : Quad) : Statement (.lt a b) :=
  named (op := 0x32#8) .binary128Comparator rfl rfl (by decide)
theorem le (a b : Quad) : Statement (.le a b) :=
  named (op := 0x33#8) .binary128Comparator rfl rfl (by decide)
theorem gt (a b : Quad) : Statement (.gt a b) :=
  named (op := 0x34#8) .binary128Comparator rfl rfl (by decide)
theorem ge (a b : Quad) : Statement (.ge a b) :=
  named (op := 0x35#8) .binary128Comparator rfl rfl (by decide)
theorem equals (a b : Quad) : Statement (.equals a b) :=
  named (op := 0x36#8) .binary128Comparator rfl rfl (by decide)
theorem cmp (a b : Quad) : Statement (.cmp a b) :=
  named (op := 0x37#8) .binary128Comparator rfl rfl (by decide)
theorem canon (value : Quad) : Statement (.canon value) :=
  named (op := 0x38#8) .binary128Comparator rfl rfl (by decide)
theorem hash (value : Quad) : Statement (.hash value) :=
  named (op := 0x39#8) .binary128Comparator rfl rfl (by decide)
theorem f16toq (p : BitVec 16) : Statement (.f16toq p) :=
  named (op := 0x40#8) .float16ToBinary128 rfl rfl (by decide)
theorem f32toq (p : BitVec 32) : Statement (.f32toq p) :=
  named (op := 0x50#8) .float32ToBinary128 rfl rfl (by decide)
theorem f64toq (p : BitVec 64) : Statement (.f64toq p) :=
  named (op := 0x60#8) .float64ToBinary128 rfl rfl (by decide)
theorem i32toq (n : BitVec 32) : Statement (.i32toq n) :=
  named (op := 0x70#8) .int32ToBinary128 rfl rfl (by decide)
theorem i64toq (n : BitVec 64) : Statement (.i64toq n) :=
  named (op := 0x80#8) .int64ToBinary128 rfl rfl (by decide)
theorem u64toq (n : BitVec 64) : Statement (.u64toq n) :=
  named (op := 0x90#8) .uint64ToBinary128 rfl rfl (by decide)
theorem lzc64 (v : Word) : Statement (.lzc64 v) :=
  named (op := 0xA0#8) .leadingZeroCounter rfl rfl (by decide)
theorem xrenorm (fmt : BitVec 2) (be : BitVec 11) (s : BitVec 6) : Statement (.xrenorm fmt be s) :=
  named (op := 0xB0#8) .exponentRenormalizer rfl rfl (by decide)
theorem rebias (e : BitVec 16) : Statement (.rebias e) :=
  named (op := 0xB1#8) .exponentRenormalizer rfl rfl (by decide)

end Sys2Proof.Laws.EncodedUnit
end

