-- ==== Sys2Proof/Laws/Step.lean ====
section
/-! SUPPORT. What a step can do, said once. -/

namespace Sys2Proof.Machine

/-- The step on a request that decodes. -/
theorem step_of_decode {s : State} {i : Instr} (h : decode s.request = .ok i) : step s = exec i s := by
  unfold step
  rw [h]

/-- The step on a reserved code. -/
theorem step_of_reserved {s : State} {e : DecodeError} (h : decode s.request = .error e) :
    step s = takeInvalidOperation s := by
  unfold step
  rw [h]

/-- Every instruction answers on the output ports, with a response that does not depend on the state. -/
theorem exec_answers (i : Instr) : ∃ p : Response, ∀ s, exec i s = .next (s.withResponse p) := by
  cases i
  case const index =>
    cases h : constantAt index with
    | none => exact ⟨invalidResponse, fun s => by simp only [exec, execConst, h]; rfl⟩
    | some q => exact ⟨⟨q, 0#32, false⟩, fun s => by simp only [exec, execConst, h]; rfl⟩
  case xrenorm fmt be sh =>
    cases h : formatOf fmt with
    | none => exact ⟨invalidResponse, fun s => by simp only [exec, execXrenorm, h]; rfl⟩
    | some f => exact ⟨⟨onLow (xrenorm f be sh.toNat), 0#32, false⟩, fun s => by simp only [exec, execXrenorm, h]; rfl⟩
  all_goals exact ⟨_, fun _ => rfl⟩

end Sys2Proof.Machine
end

