-- ==== Sys2Proof/Tests/Slice0.lean ====
section
/-! SUPPORT. The model's own tests. Expected results come from spec/95_test_vectors.md and spec/96_test_programs.md (the section
is named with each group), decode words from spec/30_encoding.md R60, R63, R64. Witnesses show that the hypotheses of the
statements can be met, clause by clause. -/

namespace Sys2Proof.Tests

open Sys2Proof.Machine Sys2Proof.Safety

/-- A state whose input ports hold a request and whose outputs hold stale values. -/
def st (op : OpCode) (A B : Quad) : State :=
  { op := op, A := A, B := B, R := 0xDEAD#128, X := 7#32, invalid := true }

/-- The response of one step from `st`. -/
def answer (op : OpCode) (A B : Quad) : Option Response :=
  match step (st op A B) with
  | .next t => some t.response
  | .fault _ | .refused _ => none

/-- A valid response with `X = 0`. -/
def ok (R : Quad) : Option Response := some ⟨R, 0#32, false⟩

/-- The instruction decoded from a request. -/
def decoded (r : Request) : Option Instr :=
  match decode r with
  | .ok i => some i
  | .error _ => none

/-! ### WellFormed: an ill-formed term for each check (R68) -/

theorem test_wf_refuses_const_13 : Instr.wf (.const 13#4) = false := by decide
theorem test_wf_refuses_const_15 : Instr.wf (.const 15#4) = false := by decide
theorem test_wf_accepts_const_12 : Instr.wf (.const 12#4) = true := by decide
theorem test_wf_refuses_xrenorm_format_3 : Instr.wf (.xrenorm 3#2 0#11 0#6) = false := by decide
theorem test_wf_accepts_xrenorm_format_2 : Instr.wf (.xrenorm 2#2 0x7FF#11 63#6) = true := by decide

/-! ### Decode: a word of every constructor, written out as op, A, B with ignored bits set (R60, R63, R64) -/

theorem test_decode_encraw :
    decoded ⟨0x00#8, 0x123456789ABCDEF0_0FEDCBA987654321#128, 0xFFFFFFFFFFFFFFFF_FFFFFFFFFFFFFFFF#128⟩ = some (.encraw 0x123456789ABCDEF0#64 0x0FEDCBA987654321#64) := by decide
theorem test_decode_enctup :
    decoded ⟨0x01#8, 0xFFFF921FB54442D1_8469898CC51701B8#128, 0xFFFFFFFFFFFFFFFF_FFFFFFFFFFFEC001#128⟩ = some (.enctup false 0xC001#16 0x921FB54442D1#48 0x8469898CC51701B8#64) := by decide
theorem test_decode_const :
    decoded ⟨0x02#8, 0xFFFFFFFFFFFFFFFF_FFFFFFFFFFFFFFF2#128, 0xFFFFFFFFFFFFFFFF_FFFFFFFFFFFFFFFF#128⟩ = some (.const 2#4) := by decide
theorem test_decode_dec :
    decoded ⟨0x10#8, 0xC001400000000000_0000000000000001#128, 0xFFFFFFFFFFFFFFFF_FFFFFFFFFFFFFFFF#128⟩ = some (.dec 0xC0014000000000000000000000000001#128) := by decide
theorem test_decode_classify :
    decoded ⟨0x20#8, 0xFFFF800000000000_0000000000000020#128, 0xFFFFFFFFFFFFFFFF_FFFFFFFFFFFFFFFF#128⟩ = some (.classify 0xFFFF8000000000000000000000000020#128) := by decide
theorem test_decode_iszero :
    decoded ⟨0x21#8, 0xFFFF800000000000_0000000000000021#128, 0xFFFFFFFFFFFFFFFF_FFFFFFFFFFFFFFFF#128⟩ = some (.iszero 0xFFFF8000000000000000000000000021#128) := by decide
theorem test_decode_isfinite :
    decoded ⟨0x22#8, 0xFFFF800000000000_0000000000000022#128, 0xFFFFFFFFFFFFFFFF_FFFFFFFFFFFFFFFF#128⟩ = some (.isfinite 0xFFFF8000000000000000000000000022#128) := by decide
theorem test_decode_isinf :
    decoded ⟨0x23#8, 0xFFFF800000000000_0000000000000023#128, 0xFFFFFFFFFFFFFFFF_FFFFFFFFFFFFFFFF#128⟩ = some (.isinf 0xFFFF8000000000000000000000000023#128) := by decide
theorem test_decode_ispinf :
    decoded ⟨0x24#8, 0xFFFF800000000000_0000000000000024#128, 0xFFFFFFFFFFFFFFFF_FFFFFFFFFFFFFFFF#128⟩ = some (.ispinf 0xFFFF8000000000000000000000000024#128) := by decide
theorem test_decode_isninf :
    decoded ⟨0x25#8, 0xFFFF800000000000_0000000000000025#128, 0xFFFFFFFFFFFFFFFF_FFFFFFFFFFFFFFFF#128⟩ = some (.isninf 0xFFFF8000000000000000000000000025#128) := by decide
theorem test_decode_isnan :
    decoded ⟨0x26#8, 0xFFFF800000000000_0000000000000026#128, 0xFFFFFFFFFFFFFFFF_FFFFFFFFFFFFFFFF#128⟩ = some (.isnan 0xFFFF8000000000000000000000000026#128) := by decide
theorem test_decode_isneg :
    decoded ⟨0x27#8, 0xFFFF800000000000_0000000000000027#128, 0xFFFFFFFFFFFFFFFF_FFFFFFFFFFFFFFFF#128⟩ = some (.isneg 0xFFFF8000000000000000000000000027#128) := by decide
theorem test_decode_isnormal :
    decoded ⟨0x28#8, 0xFFFF800000000000_0000000000000028#128, 0xFFFFFFFFFFFFFFFF_FFFFFFFFFFFFFFFF#128⟩ = some (.isnormal 0xFFFF8000000000000000000000000028#128) := by decide
theorem test_decode_issubn :
    decoded ⟨0x29#8, 0xFFFF800000000000_0000000000000029#128, 0xFFFFFFFFFFFFFFFF_FFFFFFFFFFFFFFFF#128⟩ = some (.issubn 0xFFFF8000000000000000000000000029#128) := by decide
theorem test_decode_eq :
    decoded ⟨0x30#8, 0x3FFF000000000000_0000000000000030#128, 0x4001400000000000_0000000000000001#128⟩ = some (.eq 0x3FFF0000000000000000000000000030#128 0x40014000000000000000000000000001#128) := by decide
theorem test_decode_ne :
    decoded ⟨0x31#8, 0x3FFF000000000000_0000000000000031#128, 0x4001400000000000_0000000000000001#128⟩ = some (.ne 0x3FFF0000000000000000000000000031#128 0x40014000000000000000000000000001#128) := by decide
theorem test_decode_lt :
    decoded ⟨0x32#8, 0x3FFF000000000000_0000000000000032#128, 0x4001400000000000_0000000000000001#128⟩ = some (.lt 0x3FFF0000000000000000000000000032#128 0x40014000000000000000000000000001#128) := by decide
theorem test_decode_le :
    decoded ⟨0x33#8, 0x3FFF000000000000_0000000000000033#128, 0x4001400000000000_0000000000000001#128⟩ = some (.le 0x3FFF0000000000000000000000000033#128 0x40014000000000000000000000000001#128) := by decide
theorem test_decode_gt :
    decoded ⟨0x34#8, 0x3FFF000000000000_0000000000000034#128, 0x4001400000000000_0000000000000001#128⟩ = some (.gt 0x3FFF0000000000000000000000000034#128 0x40014000000000000000000000000001#128) := by decide
theorem test_decode_ge :
    decoded ⟨0x35#8, 0x3FFF000000000000_0000000000000035#128, 0x4001400000000000_0000000000000001#128⟩ = some (.ge 0x3FFF0000000000000000000000000035#128 0x40014000000000000000000000000001#128) := by decide
theorem test_decode_equals :
    decoded ⟨0x36#8, 0x3FFF000000000000_0000000000000036#128, 0x4001400000000000_0000000000000001#128⟩ = some (.equals 0x3FFF0000000000000000000000000036#128 0x40014000000000000000000000000001#128) := by decide
theorem test_decode_cmp :
    decoded ⟨0x37#8, 0x3FFF000000000000_0000000000000037#128, 0x4001400000000000_0000000000000001#128⟩ = some (.cmp 0x3FFF0000000000000000000000000037#128 0x40014000000000000000000000000001#128) := by decide
theorem test_decode_canon :
    decoded ⟨0x38#8, 0x8000000000000000_0000000000000038#128, 0xFFFFFFFFFFFFFFFF_FFFFFFFFFFFFFFFF#128⟩ = some (.canon 0x80000000000000000000000000000038#128) := by decide
theorem test_decode_hash :
    decoded ⟨0x39#8, 0x8000000000000000_0000000000000039#128, 0xFFFFFFFFFFFFFFFF_FFFFFFFFFFFFFFFF#128⟩ = some (.hash 0x80000000000000000000000000000039#128) := by decide
theorem test_decode_f16toq :
    decoded ⟨0x40#8, 0xFFFFFFFFFFFFFFFF_FFFFFFFFFFFF3C00#128, 0xFFFFFFFFFFFFFFFF_FFFFFFFFFFFFFFFF#128⟩ = some (.f16toq 0x3C00#16) := by decide
theorem test_decode_f32toq :
    decoded ⟨0x50#8, 0xFFFFFFFFFFFFFFFF_FFFFFFFF3F800001#128, 0xFFFFFFFFFFFFFFFF_FFFFFFFFFFFFFFFF#128⟩ = some (.f32toq 0x3F800001#32) := by decide
theorem test_decode_f64toq :
    decoded ⟨0x60#8, 0xFFFFFFFFFFFFFFFF_3FB999999999999A#128, 0xFFFFFFFFFFFFFFFF_FFFFFFFFFFFFFFFF#128⟩ = some (.f64toq 0x3FB999999999999A#64) := by decide
theorem test_decode_i32toq :
    decoded ⟨0x70#8, 0xFFFFFFFFFFFFFFFF_FFFFFFFF00000005#128, 0xFFFFFFFFFFFFFFFF_FFFFFFFFFFFFFFFF#128⟩ = some (.i32toq 5#32) := by decide
theorem test_decode_i64toq :
    decoded ⟨0x80#8, 0xFFFFFFFFFFFFFFFF_0123456789ABCDEF#128, 0xFFFFFFFFFFFFFFFF_FFFFFFFFFFFFFFFF#128⟩ = some (.i64toq 0x0123456789ABCDEF#64) := by decide
theorem test_decode_u64toq :
    decoded ⟨0x90#8, 0xFFFFFFFFFFFFFFFF_8000000000000001#128, 0xFFFFFFFFFFFFFFFF_FFFFFFFFFFFFFFFF#128⟩ = some (.u64toq 0x8000000000000001#64) := by decide
theorem test_decode_lzc64 :
    decoded ⟨0xA0#8, 0xFFFFFFFFFFFFFFFF_0000000000000001#128, 0xFFFFFFFFFFFFFFFF_FFFFFFFFFFFFFFFF#128⟩ = some (.lzc64 1#64) := by decide
theorem test_decode_xrenorm :
    decoded ⟨0xB0#8, 0xFFFFFFFFFFFFFFFF_FFFFFFFFF4FBFFFE#128, 0xFFFFFFFFFFFFFFFF_FFFFFFFFFFFFFFFF#128⟩ = some (.xrenorm 2#2 0x3FF#11 52#6) := by decide
theorem test_decode_rebias :
    decoded ⟨0xB1#8, 0xFFFFFFFFFFFFFFFF_FFFFFFFFFFFFFBCE#128, 0xFFFFFFFFFFFFFFFF_FFFFFFFFFFFFFFFF#128⟩ = some (.rebias 0xFBCE#16) := by decide
theorem test_decode_rejects_reserved_03 : decoded ⟨0x03#8, 0x0000000000000000_0000000000000000#128, 0x0000000000000000_0000000000000000#128⟩ = none := by decide
theorem test_decode_rejects_no_unit_15 : decoded ⟨0xFF#8, 0xFFFFFFFFFFFFFFFF_FFFFFFFFFFFFFFFF#128, 0xFFFFFFFFFFFFFFFF_FFFFFFFFFFFFFFFF#128⟩ = none := by decide

/-! ### The table's numbering and the fetched word (log entry 7) -/

theorem test_table_word_xrenorm : decodeTableWord 8 0xB0 = some (.xrenorm 0#2 0#11 0#6) := by decide
theorem test_table_word_reserved : decodeTableWord 8 0x2A = none := by decide
theorem test_fetch_word_runs_first :
    (match step (State.reset.withFetchWord 8 0xA0) with
      | .next t => some t.response
      | .fault _ | .refused _ => none) = ok 64#128 := by decide

theorem test_fetch_word_hash_answers :
    (match step (State.reset.withFetchWord 8 0x39) with
      | .next t => !t.invalid
      | .fault _ | .refused _ => false) = true := by decide
theorem test_alias_names_the_mnemonic : codeOfMnemonic "IsNaN" = some 0x26#8 ∧ codeOfMnemonic "XRENORM" = some 0xB0#8 := by
  decide

/-! ### One step, at most two vectors an instruction -/

theorem test_encraw_keeps_nan_payload :
    answer 0x00#8 (value 0x7FFF000000000000#64 0x0000000000000001#64) 0#128 = ok (value 0x7FFF000000000000#64 0x0000000000000001#64) := by decide
theorem test_encraw_ignores_b :
    answer 0x00#8 (value 0x123456789ABCDEF0#64 0x0FEDCBA987654321#64) (value 0xFFFFFFFFFFFFFFFF#64 0xFFFFFFFFFFFFFFFF#64) = ok (value 0x123456789ABCDEF0#64 0x0FEDCBA987654321#64) := by decide
theorem test_enctup_wraps_16385_to_zero :
    answer 0x01#8 (value 0x0000000000000000#64 0x0000000000000000#64) (value 0x0000000000000000#64 0x0000000000004001#64) = ok (value 0x0000000000000000#64 0x0000000000000000#64) := by decide
theorem test_enctup_minus_five_ignores_high_a :
    answer 0x01#8 (value 0xFFFF400000000000#64 0x0000000000000000#64) (value 0xFFFFFFFFFFFFFFFF#64 0xFFFFFFFFFFFF0002#64) = ok (value 0xC001400000000000#64 0x0000000000000000#64) := by decide
theorem test_const_min_value :
    answer 0x02#8 (value 0x0000000000000000#64 0x0000000000000005#64) 0#128 = ok (value 0xFFFEFFFFFFFFFFFF#64 0xFFFFFFFFFFFFFFFF#64) := by decide
theorem test_const_13_is_invalid :
    answer 0x02#8 (value 0x0000000000000000#64 0x000000000000000D#64) 0#128 = some ⟨0#128, 0#32, true⟩ := by decide
theorem test_dec_minus_five :
    answer 0x10#8 (value 0xC001400000000000#64 0x0000000000000000#64) 0#128 = some ⟨(value 0x0000400000000000#64 0x0000000000000000#64), 0x0002C001#32, false⟩ := by decide
theorem test_dec_largest_subnormal :
    answer 0x10#8 (value 0x0000FFFFFFFFFFFF#64 0xFFFFFFFFFFFFFFFF#64) 0#128 = some ⟨(value 0x0000FFFFFFFFFFFF#64 0xFFFFFFFFFFFFFFFF#64), 0xC0010000#32, false⟩ := by decide
theorem test_class_nan_low_bit_of_upper :
    answer 0x20#8 (value 0x7FFF000000000001#64 0x0000000000000000#64) 0#128 = ok 0x020#128 := by decide
theorem test_class_negative_subnormal :
    answer 0x20#8 (value 0x8000000000000000#64 0x0000000000000001#64) 0#128 = ok 0x142#128 := by decide
theorem test_iszero_negative_zero :
    answer 0x21#8 (value 0x8000000000000000#64 0x0000000000000000#64) 0#128 = ok 1#128 := by decide
theorem test_iszero_epsilon :
    answer 0x21#8 (value 0x0000000000000000#64 0x0000000000000001#64) 0#128 = ok 0#128 := by decide
theorem test_isfinite_max_value :
    answer 0x22#8 (value 0x7FFEFFFFFFFFFFFF#64 0xFFFFFFFFFFFFFFFF#64) 0#128 = ok 1#128 := by decide
theorem test_isfinite_infinity :
    answer 0x22#8 (value 0x7FFF000000000000#64 0x0000000000000000#64) 0#128 = ok 0#128 := by decide
theorem test_isinf_negative :
    answer 0x23#8 (value 0xFFFF000000000000#64 0x0000000000000000#64) 0#128 = ok 1#128 := by decide
theorem test_isinf_low_bit_is_nan :
    answer 0x23#8 (value 0x7FFF000000000000#64 0x0000000000000001#64) 0#128 = ok 0#128 := by decide
theorem test_ispinf_positive :
    answer 0x24#8 (value 0x7FFF000000000000#64 0x0000000000000000#64) 0#128 = ok 1#128 := by decide
theorem test_ispinf_negative :
    answer 0x24#8 (value 0xFFFF000000000000#64 0x0000000000000000#64) 0#128 = ok 0#128 := by decide
theorem test_isninf_negative :
    answer 0x25#8 (value 0xFFFF000000000000#64 0x0000000000000000#64) 0#128 = ok 1#128 := by decide
theorem test_isninf_positive :
    answer 0x25#8 (value 0x7FFF000000000000#64 0x0000000000000000#64) 0#128 = ok 0#128 := by decide
theorem test_isnan_low_bit :
    answer 0x26#8 (value 0x7FFF000000000000#64 0x0000000000000001#64) 0#128 = ok 1#128 := by decide
theorem test_isnan_infinity :
    answer 0x26#8 (value 0x7FFF000000000000#64 0x0000000000000000#64) 0#128 = ok 0#128 := by decide
theorem test_isneg_nan :
    answer 0x27#8 (value 0xFFFF800000000000#64 0x0000000000000000#64) 0#128 = ok 1#128 := by decide
theorem test_isneg_one :
    answer 0x27#8 (value 0x3FFF000000000000#64 0x0000000000000000#64) 0#128 = ok 0#128 := by decide
theorem test_isnormal_smallest :
    answer 0x28#8 (value 0x0001000000000000#64 0x0000000000000000#64) 0#128 = ok 1#128 := by decide
theorem test_isnormal_largest_subnormal :
    answer 0x28#8 (value 0x0000FFFFFFFFFFFF#64 0xFFFFFFFFFFFFFFFF#64) 0#128 = ok 0#128 := by decide
theorem test_issubn_epsilon :
    answer 0x29#8 (value 0x0000000000000000#64 0x0000000000000001#64) 0#128 = ok 1#128 := by decide
theorem test_issubn_negative_zero :
    answer 0x29#8 (value 0x8000000000000000#64 0x0000000000000000#64) 0#128 = ok 0#128 := by decide
theorem test_eq_zeros :
    answer 0x30#8 (value 0x0000000000000000#64 0x0000000000000000#64) (value 0x8000000000000000#64 0x0000000000000000#64) = ok 1#128 := by decide
theorem test_eq_nan_itself :
    answer 0x30#8 (value 0xFFFF800000000000#64 0x0000000000000000#64) (value 0xFFFF800000000000#64 0x0000000000000000#64) = ok 0#128 := by decide
theorem test_ne_nan_itself :
    answer 0x31#8 (value 0xFFFF800000000000#64 0x0000000000000000#64) (value 0xFFFF800000000000#64 0x0000000000000000#64) = ok 1#128 := by decide
theorem test_ne_zeros :
    answer 0x31#8 (value 0x0000000000000000#64 0x0000000000000000#64) (value 0x8000000000000000#64 0x0000000000000000#64) = ok 0#128 := by decide
theorem test_lt_both_negative_flips :
    answer 0x32#8 (value 0xBFFF000000000000#64 0x0000000000000000#64) (value 0x8000000000000000#64 0x0000000000000001#64) = ok 1#128 := by decide
theorem test_lt_zeros :
    answer 0x32#8 (value 0x8000000000000000#64 0x0000000000000000#64) (value 0x0000000000000000#64 0x0000000000000000#64) = ok 0#128 := by decide
theorem test_le_zeros :
    answer 0x33#8 (value 0x0000000000000000#64 0x0000000000000000#64) (value 0x8000000000000000#64 0x0000000000000000#64) = ok 1#128 := by decide
theorem test_le_nan :
    answer 0x33#8 (value 0xFFFF800000000000#64 0x0000000000000000#64) (value 0x7FFF000000000000#64 0x0000000000000000#64) = ok 0#128 := by decide
theorem test_gt_five_one :
    answer 0x34#8 (value 0x4001400000000000#64 0x0000000000000000#64) (value 0x3FFF000000000000#64 0x0000000000000000#64) = ok 1#128 := by decide
theorem test_gt_nan_infinity :
    answer 0x34#8 (value 0xFFFF800000000000#64 0x0000000000000000#64) (value 0x7FFF000000000000#64 0x0000000000000000#64) = ok 0#128 := by decide
theorem test_ge_zeros :
    answer 0x35#8 (value 0x0000000000000000#64 0x0000000000000000#64) (value 0x8000000000000000#64 0x0000000000000000#64) = ok 1#128 := by decide
theorem test_ge_nan_itself :
    answer 0x35#8 (value 0xFFFF800000000000#64 0x0000000000000000#64) (value 0xFFFF800000000000#64 0x0000000000000000#64) = ok 0#128 := by decide
theorem test_equals_two_nans :
    answer 0x36#8 (value 0xFFFF800000000000#64 0x0000000000000000#64) (value 0x7FFF000000000000#64 0x0000000000000001#64) = ok 1#128 := by decide
theorem test_equals_nan_infinity :
    answer 0x36#8 (value 0xFFFF800000000000#64 0x0000000000000000#64) (value 0x7FFF000000000000#64 0x0000000000000000#64) = ok 0#128 := by decide
theorem test_cmp_infinity_nan :
    answer 0x37#8 (value 0x7FFF000000000000#64 0x0000000000000000#64) (value 0xFFFF800000000000#64 0x0000000000000000#64) = ok 3#128 := by decide
theorem test_cmp_nan_infinity :
    answer 0x37#8 (value 0xFFFF800000000000#64 0x0000000000000000#64) (value 0x7FFF000000000000#64 0x0000000000000000#64) = ok 1#128 := by decide
theorem test_canon_nan :
    answer 0x38#8 (value 0x7FFF000000000000#64 0x0000000000000001#64) 0#128 = ok (value 0xFFFF800000000000#64 0x0000000000000000#64) := by decide
theorem test_canon_negative_zero :
    answer 0x38#8 (value 0x8000000000000000#64 0x0000000000000000#64) 0#128 = ok (value 0x0000000000000000#64 0x0000000000000000#64) := by decide
theorem test_f16toq_smallest_subnormal :
    answer 0x40#8 (value 0x0000000000000000#64 0x0000000000000001#64) 0#128 = ok (value 0x3FE7000000000000#64 0x0000000000000000#64) := by decide
theorem test_f16toq_negative_subnormal :
    answer 0x40#8 (value 0xFFFFFFFFFFFFFFFF#64 0xFFFFFFFFFFFF8003#64) 0#128 = ok (value 0xBFE8800000000000#64 0x0000000000000000#64) := by decide
theorem test_f32toq_minus_pi :
    answer 0x50#8 (value 0x0000000000000000#64 0x00000000C0490FDB#64) 0#128 = ok (value 0xC000921FB6000000#64 0x0000000000000000#64) := by decide
theorem test_f32toq_nan_payload :
    answer 0x50#8 (value 0x0000000000000000#64 0x000000007F800001#64) 0#128 = ok (value 0x7FFF000002000000#64 0x0000000000000000#64) := by decide
theorem test_f64toq_largest_subnormal :
    answer 0x60#8 (value 0x0000000000000000#64 0x000FFFFFFFFFFFFF#64) 0#128 = ok (value 0x3C00FFFFFFFFFFFF#64 0xE000000000000000#64) := by decide
theorem test_f64toq_smallest :
    answer 0x60#8 (value 0x0000000000000000#64 0x0000000000000001#64) 0#128 = ok (value 0x3BCD000000000000#64 0x0000000000000000#64) := by decide
theorem test_i32toq_minus_five :
    answer 0x70#8 (value 0x0000000000000000#64 0x00000000FFFFFFFB#64) 0#128 = ok (value 0xC001400000000000#64 0x0000000000000000#64) := by decide
theorem test_i32toq_most_negative :
    answer 0x70#8 (value 0x0000000000000000#64 0x0000000080000000#64) 0#128 = ok (value 0xC01E000000000000#64 0x0000000000000000#64) := by decide
theorem test_i64toq_first_bit_in_lower :
    answer 0x80#8 (value 0x0000000000000000#64 0x0002000000000001#64) 0#128 = ok (value 0x4030000000000000#64 0x8000000000000000#64) := by decide
theorem test_i64toq_count_64_boundary :
    answer 0x80#8 (value 0x0000000000000000#64 0x0001000000000000#64) 0#128 = ok (value 0x402F000000000000#64 0x0000000000000000#64) := by decide
theorem test_u64toq_largest :
    answer 0x90#8 (value 0x0000000000000000#64 0xFFFFFFFFFFFFFFFF#64) 0#128 = ok (value 0x403EFFFFFFFFFFFF#64 0xFFFE000000000000#64) := by decide
theorem test_u64toq_zero :
    answer 0x90#8 (value 0xFFFFFFFFFFFFFFFF#64 0x0000000000000000#64) 0#128 = ok (value 0x0000000000000000#64 0x0000000000000000#64) := by decide
theorem test_lzc64_zero :
    answer 0xA0#8 (value 0xFFFFFFFFFFFFFFFF#64 0x0000000000000000#64) 0#128 = ok 64#128 := by decide
theorem test_lzc64_five :
    answer 0xA0#8 (value 0x0000000000000000#64 0x0000000000000005#64) 0#128 = ok 61#128 := by decide
theorem test_xrenorm_smallest_double :
    answer 0xB0#8 (value 0x0000000000000000#64 0x0000000034000002#64) 0#128 = ok 0xFBCE#128 := by decide
theorem test_xrenorm_format_3_is_invalid :
    answer 0xB0#8 (value 0x0000000000000000#64 0x0000000034000003#64) 0#128 = some ⟨0#128, 0#32, true⟩ := by decide
theorem test_rebias_wraps_16385 :
    answer 0xB1#8 (value 0x0000000000000000#64 0x0000000000004001#64) 0#128 = ok 0#128 := by decide
theorem test_rebias_minus_1074 :
    answer 0xB1#8 (value 0xFFFFFFFFFFFFFFFF#64 0xFFFFFFFFFFFFFBCE#64) 0#128 = ok 0x3BCD#128 := by decide
theorem test_reserved_op_is_invalid :
    answer 0xB2#8 (value 0x3FFF000000000000#64 0x0000000000000000#64) (value 0x3FFF000000000000#64 0x0000000000000000#64) = some ⟨0#128, 0#32, true⟩ := by decide

/-- HASH of the two zeros: whatever the open combining function, one response (95 section 4.1). -/
theorem test_hash_zeros : answer 0x39#8 (value 0x8000000000000000#64 0x0000000000000000#64) 0#128 = answer 0x39#8 (value 0x0000000000000000#64 0x0000000000000000#64) 0#128 := rfl

/-- HASH of any two NaNs: one response (95 section 4.1). -/
theorem test_hash_nans : answer 0x39#8 (value 0x7FFF000000000000#64 0x0000000000000001#64) 0#128 = answer 0x39#8 (value 0xFFFF800000000000#64 0x0000000000000000#64) 0#128 := rfl

/-! ### Witnesses: a state and operands that meet the hypotheses of each statement, clause by clause -/

theorem witness_StepRunsDecodedInstruction :
    decode ⟨(st 0xB1#8 5#128 0#128).op, (st 0xB1#8 5#128 0#128).A, (st 0xB1#8 5#128 0#128).B⟩ = .ok (.rebias 5#16) := rfl
theorem witness_ReservedCodes_reserved : reservedOp (st 0x03#8 0#128 0#128).op = true := by decide
theorem witness_ReservedCodes_last : reservedOp (st 0xFF#8 0#128 0#128).op = true := by decide
theorem witness_ReservedCodes_defined : reservedOp (st 0xB1#8 0#128 0#128).op = false := by decide
theorem witness_EncodeDecodeClearsIgnoredBits : decode ⟨0x70#8, 5#128, 1#128⟩ = .ok (.i32toq 5#32) := rfl
theorem witness_InvalidOperationExactly_op : invalidRequest (st 0x11#8 0#128 0#128).request = true := by decide
theorem witness_InvalidOperationExactly_const : invalidRequest (st 0x02#8 0x1D#128 0#128).request = true := by decide
theorem witness_InvalidOperationExactly_xrenorm : invalidRequest (st 0xB0#8 7#128 0#128).request = true := by decide
theorem witness_InvalidOperationExactly_valid : invalidRequest (st 0x02#8 12#128 0#128).request = false := by decide
theorem witness_ReservedSubIndex_ill_formed : Instr.wf (.const 14#4) = false := by decide
theorem witness_ReservedSubIndex_well_formed : Instr.wf (.xrenorm 0#2 0#11 0#6) = true := by decide
theorem witness_ResponseDependsOnRequestOnly :
    (st 0x20#8 1#128 2#128).request = (State.reset.present ⟨0x20#8, 1#128, 2#128⟩).request ∧
    (st 0x20#8 1#128 2#128) ≠ State.reset.present ⟨0x20#8, 1#128, 2#128⟩ := by decide
theorem witness_EveryInstructionCompletes : ∀ q, Instr.iszero 0#128 ≠ .dec q := by
  intro q h
  cases h
theorem witness_IgnoredOperandBits :
    (st 0x40#8 0x13C00#128 1#128).op = (st 0x40#8 0x3C00#128 2#128).op ∧
    (st 0x40#8 0x13C00#128 1#128).A &&& readsA 0x40#8 = (st 0x40#8 0x3C00#128 2#128).A &&& readsA 0x40#8 ∧
    (st 0x40#8 0x13C00#128 1#128).B &&& readsB 0x40#8 = (st 0x40#8 0x3C00#128 2#128).B &&& readsB 0x40#8 := by decide
theorem witness_RequestsMayBeReordered :
    [⟨0x00#8, 1#128, 0#128⟩, ⟨0x03#8, 0#128, 0#128⟩].Perm [⟨0x03#8, 0#128, 0#128⟩, (⟨0x00#8, 1#128, 0#128⟩ : Request)] :=
  List.Perm.swap _ _ _
theorem witness_RepeatingARequest : step State.reset = .next State.reset := rfl
theorem witness_EveryStepSettles : Settled State.reset := by decide
theorem witness_WellFormedProgramsAreSafe :
    ∀ i ∈ [Instr.const 12#4, Instr.xrenorm 2#2 0#11 52#6, Instr.eq 0#128 1#128], i.wf = true := by decide
theorem witness_EncrawIsTheIdentity : (st 0x00#8 5#128 0#128).op = 0x00#8 := rfl
theorem witness_EnctupExponentWraps_least : -16383 ≤ (0xC001#16).toInt ∧ (0xC001#16).toInt ≤ 16384 := by decide
theorem witness_EnctupExponentWraps_greatest : -16383 ≤ (0x4000#16).toInt ∧ (0x4000#16).toInt ≤ 16384 := by decide
theorem witness_ConstantsBound_finite : expField 0x7FFEFFFFFFFFFFFFFFFFFFFFFFFFFFFF#128 ≠ 0x7FFF := by decide
theorem witness_ConstantsBound_positive : yes (exec (.lt 0#128 1#128) State.reset) = true := by decide
theorem witness_Relational_nan : NanPattern 0x7FFF0000000000000000000000000001#128 := by decide
theorem witness_Relational_zeros :
    ZeroPattern 0#128 ∧ ZeroPattern 0x80000000000000000000000000000000#128 ∧ ¬ NanPattern 0#128 ∧
    ¬ NanPattern 0x80000000000000000000000000000000#128 ∧
    (Negative 0#128 ↔ ¬ Negative 0x80000000000000000000000000000000#128) := by decide
theorem witness_Relational_signs_differ :
    ¬ (ZeroPattern 0x80000000000000000000000000000000#128 ∧ ZeroPattern 1#128) ∧
    ¬ NanPattern 0x80000000000000000000000000000000#128 ∧ ¬ NanPattern 1#128 ∧
    (Negative 0x80000000000000000000000000000000#128 ↔ ¬ Negative 1#128) := by decide
theorem witness_Relational_both_positive :
    ¬ Negative 0#128 ∧ ¬ Negative 0x7FFF0000000000000000000000000000#128 ∧ ¬ NanPattern 0#128 ∧
    ¬ NanPattern 0x7FFF0000000000000000000000000000#128 := by decide
theorem witness_Relational_both_negative :
    Negative 0x80000000000000000000000000000000#128 ∧ Negative 0xFFFF0000000000000000000000000000#128 ∧
    ¬ NanPattern 0xFFFF0000000000000000000000000000#128 := by decide
theorem witness_ComparisonsAgreeWithTheNumbersDenoted :
    finiteValue (denote 0#128) = some 0 ∧
    finiteValue (denote 0x80000000000000000000000000000000#128) = some 0 := ⟨rfl, rfl⟩
theorem witness_EqualsIsAnEquivalence_transitive :
    yes (exec (.equals 0x7FFF0000000000000000000000000001#128 0xFFFF8000000000000000000000000000#128) State.reset) = true ∧
    yes (exec (.equals 0xFFFF8000000000000000000000000000#128 0x7FFF0000000000000000000000000002#128) State.reset) = true := by
  decide
theorem witness_CmpAnswersTheThreeWayOrder_ordered :
    yes (exec (.lt 0#128 1#128) State.reset) = true ∧ yes (exec (.gt 1#128 0#128) State.reset) = true ∧
    yes (exec (.eq 0#128 0x80000000000000000000000000000000#128) State.reset) = true := by decide
theorem witness_CmpAnswersTheThreeWayOrder_nan :
    NanPattern 0xFFFF8000000000000000000000000000#128 ∧ ¬ NanPattern 0xFFFF0000000000000000000000000000#128 := by decide
theorem witness_CmpIsATotalPreorder :
    orderOf (exec (.cmp 0#128 1#128) State.reset) ≤ 0 ∧
    orderOf (exec (.cmp 1#128 0xFFFF8000000000000000000000000000#128) State.reset) ≤ 0 := by decide
theorem witness_CanonMapsToTheRepresentative :
    NanPattern 0x7FFF0000000000000000000000000001#128 ∧ ZeroPattern 0x80000000000000000000000000000000#128 ∧
    ¬ NanPattern 1#128 ∧ ¬ ZeroPattern 1#128 := by decide
theorem witness_EqualValuesHashAlike :
    yes (exec (.equals 0#128 0x80000000000000000000000000000000#128) State.reset) = true := by decide
theorem witness_LzcCountsLeadingZeros : 0#64 = 0#64 ∧ (0x8000000000000000#64 : Word) ≠ 0#64 := by decide
theorem witness_XrenormUnbiases_formats :
    ((0#2 : BitVec 2), 5, 15) ∈ [(0#2, 5, 15), (1#2, 8, 127), (2#2, 11, 1023)] ∧
    ((2#2 : BitVec 2), 11, 1023) ∈ [(0#2, 5, 15), (1#2, 8, 127), (2#2, 11, 1023)] := by decide
theorem witness_RenormThenRebias :
    ((2#2 : BitVec 2), 11, 52) ∈ [(0#2, 5, 10), (1#2, 8, 23), (2#2, 11, 52)] ∧ (52#6).toNat ≤ 52 ∧
    (0x7FF#11).toNat % 2 ^ 11 = 2 ^ 11 - 1 ∧ (0#11).toNat % 2 ^ 11 ≠ 2 ^ 11 - 1 := by decide
theorem witness_FloatImported_binary16 :
    (0x8000 / 2 ^ 10 % 2 ^ 5 = 0 ∧ 0x8000 % 2 ^ 10 = 0) ∧ 0x7C01 / 2 ^ 10 % 2 ^ 5 = 2 ^ 5 - 1 ∧
    (0 < 0x7BFF / 2 ^ 10 % 2 ^ 5 ∧ 0x7BFF / 2 ^ 10 % 2 ^ 5 < 2 ^ 5 - 1) ∧
    (0x0001 / 2 ^ 10 % 2 ^ 5 = 0 ∧ 2 ^ 10 ≤ 0x0001 % 2 ^ 10 * 2 ^ 10 ∧ 0x0001 % 2 ^ 10 * 2 ^ 10 < 2 ^ 11) := by decide
theorem witness_FloatImported_binary32 :
    (0x80000000 / 2 ^ 23 % 2 ^ 8 = 0 ∧ 0x80000000 % 2 ^ 23 = 0) ∧ 0x7F800001 / 2 ^ 23 % 2 ^ 8 = 2 ^ 8 - 1 ∧
    (0 < 0x00800000 / 2 ^ 23 % 2 ^ 8 ∧ 0x00800000 / 2 ^ 23 % 2 ^ 8 < 2 ^ 8 - 1) ∧
    (0x007FFFFF / 2 ^ 23 % 2 ^ 8 = 0 ∧ 2 ^ 23 ≤ 0x007FFFFF % 2 ^ 23 * 2 ^ 1 ∧ 0x007FFFFF % 2 ^ 23 * 2 ^ 1 < 2 ^ 24) := by
  decide
theorem witness_FloatImported_binary64 :
    (0x8000000000000000 / 2 ^ 52 % 2 ^ 11 = 0 ∧ 0x8000000000000000 % 2 ^ 52 = 0) ∧
    0x7FF0000000000001 / 2 ^ 52 % 2 ^ 11 = 2 ^ 11 - 1 ∧
    (0 < 0x7FEFFFFFFFFFFFFF / 2 ^ 52 % 2 ^ 11 ∧ 0x7FEFFFFFFFFFFFFF / 2 ^ 52 % 2 ^ 11 < 2 ^ 11 - 1) ∧
    (1 / 2 ^ 52 % 2 ^ 11 = 0 ∧ 2 ^ 52 ≤ 1 % 2 ^ 52 * 2 ^ 52 ∧ 1 % 2 ^ 52 * 2 ^ 52 < 2 ^ 53) := by decide
theorem witness_NanPayloadGoesToTheTop :
    ((0x7C01#16).toNat / 2 ^ 10 % 2 ^ 5 = 31 ∧ (0x7C01#16).toNat % 2 ^ 10 ≠ 0) ∧
    ((0xFF800001#32).toNat / 2 ^ 23 % 2 ^ 8 = 255 ∧ (0xFF800001#32).toNat % 2 ^ 23 ≠ 0) ∧
    ((0x7FF8000000000000#64).toNat / 2 ^ 52 % 2 ^ 11 = 2047 ∧ (0x7FF8000000000000#64).toNat % 2 ^ 52 ≠ 0) := by decide
theorem witness_FloatImportLosesNoBits_equal_results :
    exec (.f16toq 0x3C00#16) State.reset = exec (.f16toq 0x3C00#16) State.reset := rfl
theorem witness_IntegerImported :
    (2 ^ 0 ≤ (0xFFFFFFFF#32).toInt.natAbs ∧ (0xFFFFFFFF#32).toInt.natAbs < 2 ^ 1) ∧
    (2 ^ 63 ≤ (0x8000000000000000#64).toInt.natAbs ∧ (0x8000000000000000#64).toInt.natAbs < 2 ^ 64) ∧
    (0#64).toInt = 0 := by decide
theorem witness_NegatedIntegers :
    ((5#32 : BitVec 32) ≠ 0#32 ∧ (5#32 : BitVec 32) ≠ 0x80000000#32) ∧
    ((0x7FFFFFFFFFFFFFFF#64 : Word) ≠ 0#64 ∧ (0x7FFFFFFFFFFFFFFF#64 : Word) ≠ 0x8000000000000000#64) := by decide
theorem witness_IntegerUnitsAgree : (0x7FFFFFFFFFFFFFFF#64).toNat < 2 ^ 63 := by decide

end Sys2Proof.Tests
end

section
/-! A step answers the request on the input ports with the response `eval` gives it, and a run of a program is the list of
these responses (spec/10_state.md R20). -/

namespace Sys2Proof.Machine

/-- The response to a request is one and the same in every state that presents it: `exec_answers` for a code that decodes, the
response of `InvalidOperation` for a reserved one. -/
theorem step_answers (r : Request) : ∃ p : Response, ∀ s, s.request = r → step s = .next (s.withResponse p) := by
  cases h : decode r with
  | ok i =>
    obtain ⟨p, hp⟩ := exec_answers i
    exact ⟨p, fun s hs => (step_of_decode (hs ▸ h)).trans (hp s)⟩
  | error e => exact ⟨invalidResponse, fun s hs => step_of_reserved (hs ▸ h)⟩

/-- `eval` reads its response off one step from the reset state. -/
theorem eval_of_step {r : Request} {t : State} (h : step (State.reset.present r) = .next t) : eval r = t.response := by
  simp only [eval, h]

/-- A step goes on to the state with the same inputs and, on the outputs, the response `eval` gives them. -/
theorem step_eq_eval (s : State) : step s = .next (s.withResponse (eval s.request)) := by
  obtain ⟨p, hp⟩ := step_answers s.request
  have heval : eval s.request = p := eval_of_step (hp _ (State.present_request _ _))
  rw [heval]
  exact hp s rfl

/-- No request gives no response. -/
@[simp] theorem runRequests_nil (s : State) : runRequests s [] = [] := rfl

/-- The first response of a run is `eval` of the first request; the rest run on from the state that answered it. -/
@[simp] theorem runRequests_cons (s : State) (r : Request) (rs : List Request) :
    runRequests s (r :: rs) = eval r :: runRequests ((s.present r).withResponse (eval r)) rs := by
  have hstep : step (s.present r) = .next ((s.present r).withResponse (eval r)) := step_eq_eval (s.present r)
  simp only [runRequests, hstep, State.withResponse_response]

/-- Settles O12, by induction on the list of requests, for every start state at once. -/
theorem programRunIsListOfResponses : Obligations.ProgramRunIsListOfResponses := by
  intro s rs
  induction rs generalizing s with
  | nil => rw [runRequests_nil, List.map_nil]
  | cons r rs ih => rw [runRequests_cons, ih, List.map_cons]

end Sys2Proof.Machine
end

section
/-! The operation-code map against the ranges R67 lists (spec/30_encoding.md R67): 33 codes have a row, the other 223 are
rejected. -/

namespace Sys2Proof.Machine

open Sys2Proof.Safety

/-- The map has a row for exactly the codes outside the ranges of R67, checked code by code. -/
theorem rowOf_isSome (op : OpCode) : (rowOf op).isSome = !reservedOp op := by
  revert op
  decide

/-- The codes outside the ranges of R67 are the codes of the map. -/
theorem reservedOp_eq_false_iff_mem_codes (op : OpCode) : reservedOp op = false ↔ op ∈ opRows.map (·.code) := by
  have hsome : reservedOp op = false ↔ (rowOf op).isSome = true := by simp [rowOf_isSome]
  rw [hsome]
  simp [rowOf]

/-- The operands of a row make an instruction of that row's code. -/
theorem encode_operands_op {row : OpRow} (h : row ∈ opRows) (A B : Quad) :
    (encode (row.operands A B)).op = row.code := by
  revert row
  simp only [opRows, encoderRows, decoderRows, classifierRows, comparatorRows, importerRows, helperRows,
    List.forall_mem_append, List.forall_mem_cons]
  simp [encode]

/-- A request with a reserved code is rejected by the name of its code. -/
theorem decode_of_reserved {r : Request} (h : reservedOp r.op = true) : decode r = .error (.reservedOp r.op) :=
  decode_of_no_row (by simpa [h] using rowOf_isSome r.op)

/-- A request with any other code decodes to an instruction of that code. -/
theorem decode_of_not_reserved {r : Request} (h : reservedOp r.op = false) :
    ∃ i, decode r = .ok i ∧ (encode i).op = r.op := by
  obtain ⟨row, hrow⟩ : ∃ row, rowOf r.op = some row := Option.isSome_iff_exists.mp (by simp [rowOf_isSome, h])
  obtain ⟨hmem, hcode⟩ := rowOf_code hrow
  exact ⟨_, decode_of_row hrow, (encode_operands_op hmem _ _).trans hcode⟩

/-- The codes 0 to 255 without the reserved ones are the 33 codes of the map. -/
theorem filter_not_reservedOp_perm_codes :
    (((List.range 256).map (BitVec.ofNat 8)).filter (fun op => !reservedOp op)).Perm (opRows.map (·.code)) := by
  have hnodup : ((List.range 256).map (BitVec.ofNat 8)).Nodup := List.nodup_range.map_on fun m hm n hn hmn => by
    simp only [List.mem_range] at hm hn
    bv_omega
  refine (List.perm_ext_iff_of_nodup (hnodup.filter _) opRows_codes_distinct.1).mpr fun op => ?_
  have hmem : op ∈ (List.range 256).map (BitVec.ofNat 8) := List.mem_map.mpr ⟨op.toNat, by simp [op.isLt], by simp⟩
  simp only [List.mem_filter, hmem, true_and, Bool.not_eq_true', reservedOp_eq_false_iff_mem_codes]

/-- 256 codes, of which 33 are not reserved. -/
theorem length_filter_reservedOp :
    ((List.range 256).filter (fun n => reservedOp (BitVec.ofNat 8 n))).length = 223 := by
  have hdefined : (List.range 256).countP (fun n => !reservedOp (BitVec.ofNat 8 n)) = 33 := by
    have hlen := filter_not_reservedOp_perm_codes.length_eq
    rwa [← List.countP_eq_length_filter, List.countP_map, List.length_map, opRows_codes_distinct.2] at hlen
  have hall := List.length_eq_countP_add_countP (fun n => reservedOp (BitVec.ofNat 8 n)) (l := List.range 256)
  simp only [Bool.not_eq_true, Bool.decide_eq_false, List.length_range] at hall
  rw [← List.countP_eq_length_filter]
  omega

/-- Settles O2: the map and the ranges of R67 split the codes between them. -/
theorem reservedCodesRaiseInvalidOperation : Obligations.ReservedCodesRaiseInvalidOperation := by
  refine ⟨fun s hs => ?_, fun s hs => decode_of_not_reserved (r := s.request) hs, length_filter_reservedOp⟩
  have hdecode : decode s.request = .error (.reservedOp s.op) := decode_of_reserved (r := s.request) hs
  exact ⟨hdecode, (step_of_reserved hdecode).trans (takeInvalidOperation_eq s)⟩

end Sys2Proof.Machine
end

section
/-! The two operations with a reserved operand value (spec/30_encoding.md R68). -/

namespace Sys2Proof.Machine

open Sys2Proof.Safety

/-- CONST is ill-formed at an index above 12, XRENORM at format 3, and no other instruction is. -/
theorem wf_eq_false_iff (i : Instr) :
    i.wf = false ↔ (∃ k : BitVec 4, 13 ≤ k.toNat ∧ i = .const k) ∨ (∃ be s, i = .xrenorm 3#2 be s) := by
  cases i
  case const index => simp [Instr.wf, Nat.succ_le_iff]
  case xrenorm fmt be sh => simp [Instr.wf]
  all_goals simp [Instr.wf]

/-- CONST at a reserved index is rejected (R105). -/
theorem exec_const_of_reserved {k : BitVec 4} (hk : 13 ≤ k.toNat) (s : State) :
    exec (.const k) s = .next (rejected s) := by
  have hnone : constantAt k = none := by simpa [show ¬ k.toNat ≤ 12 by omega] using constantAt_isSome k
  simp only [exec, execConst, hnone, takeInvalidOperation_eq]

/-- XRENORM with format 3 is rejected (R182). -/
theorem exec_xrenorm_of_reserved (be : BitVec 11) (sh : BitVec 6) (s : State) :
    exec (.xrenorm 3#2 be sh) s = .next (rejected s) := rfl

/-- A well-formed instruction is answered. -/
theorem exec_of_wf {i : Instr} (hi : i.wf = true) (s : State) : ∃ R X, exec i s = .next (answered s R X) := by
  cases i
  case const index =>
    obtain ⟨q, hq⟩ := Option.isSome_iff_exists.mp ((constantAt_isSome index).trans hi)
    exact ⟨q, 0#32, by simp only [exec, execConst, hq, answerR_eq]⟩
  case xrenorm fmt be sh =>
    obtain ⟨f, hf⟩ := Option.isSome_iff_exists.mp ((formatOf_isSome fmt).trans hi)
    exact ⟨onLow (xrenorm f be sh.toNat), 0#32, by simp only [exec, execXrenorm, hf, answerR_eq]⟩
  all_goals exact ⟨_, _, rfl⟩

/-- Settles O7, from the two shapes an ill-formed instruction has. -/
theorem reservedSubIndexRaisesInvalidOperation : Obligations.ReservedSubIndexRaisesInvalidOperation := by
  refine ⟨fun i s hi => ?_, fun i s hi => exec_of_wf hi s, wf_eq_false_iff⟩
  obtain ⟨k, hk, rfl⟩ | ⟨be, sh, rfl⟩ := (wf_eq_false_iff i).mp hi
  · exact exec_const_of_reserved hk s
  · exact exec_xrenorm_of_reserved be sh s

end Sys2Proof.Machine
end

section
/-! The fields of a value as numbers, and how they are read back from a response (spec/00_scope.md R17;
spec/30_encoding.md R64). -/

namespace Sys2Proof.Machine

open Sys2Proof.Safety

/-- The biased exponent is the exponent field of the pattern. -/
theorem bexp_toNat (q : Quad) : (bexp q).toNat = expField q := by
  rw [bexp, BitVec.extractLsb'_toNat, Nat.shiftRight_eq_div_pow, expField]

/-- The trailing significand is the fraction field of the pattern. -/
theorem sig_toNat (q : Quad) : (sig q).toNat = fracField q := by
  rw [sig, BitVec.extractLsb'_toNat, Nat.shiftRight_zero, fracField]

/-- The sign is the top bit of the pattern. -/
theorem sign_eq_true_iff (q : Quad) : sign q = true ↔ Negative q := by
  rw [sign, ← BitVec.msb_eq_getLsbD_last, BitVec.msb_eq_decide, decide_eq_true_iff]

/-- IsZero is a zero pattern (R131). -/
theorem isZero_eq_true_iff (q : Quad) : isZero q = true ↔ ZeroPattern q := by
  simp [isZero, expIsZero, sigIsZero, ← BitVec.toNat_inj, bexp_toNat, sig_toNat, ZeroPattern]

/-- The two words of a value make the value. -/
theorem encRaw_upper_lower (q : Quad) : encRaw (upper q) (lower q) = q :=
  (BitVec.extractLsb'_append_extractLsb'_eq_extractLsb' rfl).trans BitVec.extractLsb'_eq_self

/-- A narrow result is read back from the low bits of `R`. -/
theorem onLow_extractLsb' {n : Nat} (hn : n ≤ 128) (v : BitVec n) : (onLow v).extractLsb' 0 n = v := by
  rw [onLow, BitVec.extractLsb'_setWidth_of_le (by omega), BitVec.extractLsb'_eq_self]

/-- Bit 15 of DEC's `X` is the sign. -/
theorem decX_getLsbD_15 (q : Quad) : (decX q).getLsbD 15 = sign q := by
  rw [decX, BitVec.getLsbD_append, if_neg (Nat.lt_irrefl 15), BitVec.getLsbD_append]
  simp

/-- The bits of DEC's `X` below the sign are the biased exponent. -/
theorem decX_extractLsb'_0_15 (q : Quad) : (decX q).extractLsb' 0 15 = bexp q :=
  BitVec.extractLsb'_append_eq_right

end Sys2Proof.Machine
end

section
/-! The pseudo-operations ask the block and select bits of its responses (spec/30_encoding.md R71). -/

namespace Sys2Proof.Machine

open Sys2Proof.Safety

/-- `ask` of an instruction that survives its own encoding is the response of its meaning. -/
theorem ask_of_exec {i : Instr} {p : Response} (hdecode : decode (encode i) = .ok i)
    (hexec : ∀ s, exec i s = .next (s.withResponse p)) : ask i = p :=
  eval_of_step ((step_of_decode (s := State.reset.present (encode i)) hdecode).trans (hexec _))

/-- The response to ISZERO (R131). -/
theorem ask_iszero (q : Quad) : ask (.iszero q) = ⟨onBit0 (isZero q), 0#32, false⟩ :=
  ask_of_exec rfl fun _ => rfl

/-- The response to DEC (R106). -/
theorem ask_dec (q : Quad) : ask (.dec q) = ⟨onLow (sig q), decX q, false⟩ :=
  ask_of_exec rfl fun _ => rfl

/-- The response to ENCRAW (R101): the encoding packs the two words as raw construction does, so decoding gives them back. -/
theorem ask_encraw (u l : Word) : ask (.encraw u l) = ⟨encRaw u l, 0#32, false⟩ := by
  have hdecode : decode (encode (.encraw u l)) = .ok (.encraw (upper (encRaw u l)) (lower (encRaw u l))) := rfl
  obtain ⟨hupper, hlower⟩ := encRaw_words u l
  rw [hupper, hlower] at hdecode
  exact ask_of_exec hdecode fun _ => rfl

/-- Settles O58, from the response to each instruction asked and the bits selected of it. -/
theorem pseudoOperationsExpand : Obligations.PseudoOperationsExpand := by
  refine ⟨fun a b => ?_, fun q => ?_, fun q => ⟨?_, ?_, ?_⟩⟩
  · simp only [pseudoAreZero, ask_iszero, onBit0_getLsbD_zero, Bool.and_eq_true, isZero_eq_true_iff]
  · rw [pseudoMov, ask_encraw, encRaw_upper_lower]
  · rw [pseudoGetSign, ask_dec, decX_getLsbD_15, sign_eq_true_iff]
  · rw [pseudoGetExp, ask_dec, decX_extractLsb'_0_15, bexp_toNat]
  · rw [pseudoGetSig, ask_dec, onLow_extractLsb' (by omega), sig_toNat]

end Sys2Proof.Machine
end

section
/-! The codec: construction of values, the constant table, and DEC (spec/40_codec.md R101 to R106; spec/10_state.md R30). -/

namespace Sys2Proof.Machine

open Sys2Proof.Safety

/-! ### Construction -/

/-- ENCRAW answers its two words, stored as they are (R101). -/
theorem exec_encraw (s : State) (u l : Word) : exec (.encraw u l) s = .next (answered s (u ++ l) 0#32) := rfl

/-- ENCTUP answers the tuple construction (R102). -/
theorem exec_enctup (s : State) (sg : Bool) (e : BitVec 16) (su : BitVec 48) (sl : Word) :
    exec (.enctup sg e su sl) s = .next (answered s (encTuple sg e su sl) 0#32) := rfl

/-- Code 0x00 decodes to ENCRAW of the two words of `A` (R63, R64). -/
theorem decode_of_encraw_code {r : Request} (h : r.op = 0x00#8) :
    decode r = .ok (.encraw (upper r.A) (lower r.A)) :=
  decode_of_row (row := encoderRows[0]) (by rw [h]; rfl)

/-- Settles O19: the words ENCRAW takes from `A` are put together again as they were. -/
theorem encrawIsTheIdentity : Obligations.EncrawIsTheIdentity := by
  refine ⟨exec_encraw, fun s hop => ?_⟩
  have hwords : upper s.A ++ lower s.A = s.A := encRaw_upper_lower s.A
  rw [step_of_decode (decode_of_encraw_code (r := s.request) hop), exec_encraw, State.request_A, hwords]

/-- Settles O20, from the fields of a tuple construction and the value of the re-biased exponent. -/
theorem enctupPlacesFields : Obligations.EnctupPlacesFields := by
  intro s sg e su sl
  obtain ⟨hsign, hbexp, hsigu, hsigl⟩ := encTuple_fields sg e su sl
  have hexp : ((bexp (encTuple sg e su sl)).toNat : Int) = (e.toInt + 16383) % 2 ^ 15 := by rw [hbexp, rebias_toNat]
  exact ⟨encTuple sg e su sl, exec_enctup s sg e su sl, hsign, hexp, hsigu, hsigl⟩

/-! ### The constant table -/

/-- CONST answers the entry at its index (R105). -/
theorem exec_const_of_entry {k : BitVec 4} {q : Quad} (h : constantAt k = some q) (s : State) :
    exec (.const k) s = .next (answered s q 0#32) := by
  simp only [exec, execConst, h, answerR_eq]

/-- Settles O22: each of the indices 0 to 12 has its entry of R30, and the other three are reserved. -/
theorem constReadsTheTable : Obligations.ConstReadsTheTable := by
  intro s
  refine ⟨?_, ?_, ?_, ?_, ?_, ?_, ?_, ?_, ?_, ?_, ?_, ?_, ?_, ?reserved13, ?reserved14, ?reserved15⟩
  case reserved13 | reserved14 | reserved15 => exact exec_const_of_reserved (by decide) s
  all_goals exact exec_const_of_entry rfl s

/-! ### DEC -/

/-- DEC answers the trailing significand, and on `X` the rest (R106). -/
theorem exec_dec (s : State) (q : Quad) : exec (.dec q) s = .next (answered s (onLow (sig q)) (decX q)) := rfl

/-- A narrow result is its number on 128 bits. -/
theorem onLow_eq_ofNat {n : Nat} (v : BitVec n) : onLow v = BitVec.ofNat 128 v.toNat := by
  rw [onLow, BitVec.ofNat_toNat]

/-- Un-biasing as a number: 16 bits hold every difference, so nothing wraps. -/
theorem unbias_toInt (field : BitVec 15) : (unbias field).toInt = (field.toNat : Int) - 16383 := by
  have hlt : field.toNat < 2 ^ 15 := field.isLt
  rw [unbias, bias]
  exact BitVec.toInt_ofInt_eq_self (by decide) (by omega) (by omega)

/-- The sign over the biased exponent is the top 16 bits of the value (R17). -/
theorem ofBool_sign_append_bexp (q : Quad) : BitVec.ofBool (sign q) ++ bexp q = q.extractLsb' 112 16 := by
  have hsign : BitVec.ofBool (sign q) = q.extractLsb' 127 1 := by
    ext i hi
    obtain rfl : i = 0 := by omega
    simp [sign]
  rw [hsign, bexp]
  exact BitVec.extractLsb'_append_extractLsb'_eq_extractLsb' rfl

/-- DEC's `X` has two halves: the unbiased exponent, and the top 16 bits of the value as they stand. -/
theorem decX_eq_append (q : Quad) : decX q = unbias (bexp q) ++ q.extractLsb' 112 16 := by
  rw [decX, BitVec.append_assoc, ofBool_sign_append_bexp, BitVec.cast_eq]

/-- The upper half of DEC's `X` is the unbiased exponent. -/
theorem decX_extractLsb'_16_16 (q : Quad) : (decX q).extractLsb' 16 16 = unbias (bexp q) := by
  rw [decX_eq_append, BitVec.extractLsb'_append_eq_left]

/-- The lower half of DEC's `X` is the top 16 bits of the value. -/
theorem decX_extractLsb'_0_16 (q : Quad) : (decX q).extractLsb' 0 16 = q.extractLsb' 112 16 := by
  rw [decX_eq_append, BitVec.extractLsb'_append_eq_right]

/-- Settles O24, field by field of `X`. -/
theorem decExtractsFields : Obligations.DecExtractsFields := by
  intro s q
  refine ⟨decX q, ?_, ?_, decX_getLsbD_15 q, ?_, decX_extractLsb'_0_16 q⟩
  · rw [exec_dec, onLow_eq_ofNat, sig_toNat]
  · rw [decX_extractLsb'_0_15, bexp_toNat]
  · rw [decX_extractLsb'_16_16, unbias_toInt, bexp_toNat]

end Sys2Proof.Machine
end

section
/-! The nine class predicates in terms of the fields (spec/41_classifier.md R130 to R139). -/

namespace Sys2Proof.Machine

open Sys2Proof.Safety

/-! ### The three tests the predicates are made of -/

/-- The exponent field is a number of 15 bits. -/
theorem expField_lt (q : Quad) : expField q < 2 ^ 15 := Nat.mod_lt _ (by decide)

/-- `e = 0` as a test of the number (R130). -/
theorem expIsZero_eq_decide (q : Quad) : expIsZero q = decide (expField q = 0) := by
  rw [Bool.eq_iff_iff, decide_eq_true_iff, expIsZero, beq_iff_eq, ← bexp_toNat]
  exact BitVec.toNat_inj.symm

/-- `e = 0x7FFF` as a test of the number (R130). -/
theorem expIsMax_eq_decide (q : Quad) : expIsMax q = decide (expField q = 0x7FFF) := by
  rw [Bool.eq_iff_iff, decide_eq_true_iff, expIsMax, beq_iff_eq, ← bexp_toNat]
  exact BitVec.toNat_inj.symm

/-- `sz` as a test of the number (R130). -/
theorem sigIsZero_eq_decide (q : Quad) : sigIsZero q = decide (fracField q = 0) := by
  rw [Bool.eq_iff_iff, decide_eq_true_iff, sigIsZero, beq_iff_eq, ← sig_toNat]
  exact BitVec.toNat_inj.symm

/-! ### The predicates (IsZero and the sign are above) -/

/-- IsFinite is an exponent field other than the largest (R132). -/
theorem isFinite_eq_true_iff (q : Quad) : isFinite q = true ↔ expField q ≠ 0x7FFF := by
  simp [isFinite, expIsMax_eq_decide]

/-- IsInfinity is the largest exponent field over a zero significand (R133). -/
theorem isInfinity_eq_true_iff (q : Quad) : isInfinity q = true ↔ expField q = 0x7FFF ∧ fracField q = 0 := by
  simp [isInfinity, expIsMax_eq_decide, sigIsZero_eq_decide]

/-- IsPositiveInfinity is IsInfinity with the sign clear (R134). -/
theorem isPositiveInfinity_eq_true_iff (q : Quad) :
    isPositiveInfinity q = true ↔ expField q = 0x7FFF ∧ fracField q = 0 ∧ ¬ Negative q := by
  have hsplit : isPositiveInfinity q = (isInfinity q && !sign q) := rfl
  rw [hsplit, Bool.and_eq_true, isInfinity_eq_true_iff, Bool.not_eq_true', ← Bool.not_eq_true, sign_eq_true_iff,
    and_assoc]

/-- IsNegativeInfinity is IsInfinity with the sign set (R135). -/
theorem isNegativeInfinity_eq_true_iff (q : Quad) :
    isNegativeInfinity q = true ↔ expField q = 0x7FFF ∧ fracField q = 0 ∧ Negative q := by
  have hsplit : isNegativeInfinity q = (isInfinity q && sign q) := rfl
  rw [hsplit, Bool.and_eq_true, isInfinity_eq_true_iff, sign_eq_true_iff, and_assoc]

/-- IsNaN is a NaN pattern (R136). -/
theorem isNaN_eq_true_iff (q : Quad) : isNaN q = true ↔ NanPattern q := by
  simp [isNaN, expIsMax_eq_decide, sigIsZero_eq_decide]

/-- IsNormal is an exponent field that is neither the smallest nor the largest of 15 bits (R138). -/
theorem isNormal_eq_true_iff (q : Quad) : isNormal q = true ↔ 1 ≤ expField q ∧ expField q ≤ 0x7FFE := by
  have hends : isNormal q = true ↔ expField q ≠ 0 ∧ expField q ≠ 0x7FFF := by
    simp [isNormal, expIsZero_eq_decide, expIsMax_eq_decide]
  have hlt := expField_lt q
  rw [hends]
  omega

/-- IsSubnormal is a zero exponent field over a nonzero significand (R139). -/
theorem isSubnormal_eq_true_iff (q : Quad) : isSubnormal q = true ↔ expField q = 0 ∧ fracField q ≠ 0 := by
  simp [isSubnormal, expIsZero_eq_decide, sigIsZero_eq_decide]

/-! ### The operations -/

/-- An answer on `R[0]` is the truth of what its bit stands for (R130). -/
theorem answerR_onBit0 {b : Bool} {P : Prop} [Decidable P] (h : b = true ↔ P) (s : State) :
    answerR s (onBit0 b) = .next (truth s P) := by
  simp only [answerR_eq, truth_eq_answered, onBit0, h]

/-- Settles O26: each operation answers its predicate on `R[0]`, and each predicate is its condition on the fields. -/
theorem predicatesFollowTheFields : Obligations.PredicatesFollowTheFields := fun s q =>
  ⟨answerR_onBit0 (isZero_eq_true_iff q) s,
    answerR_onBit0 (isFinite_eq_true_iff q) s,
    answerR_onBit0 (isInfinity_eq_true_iff q) s,
    answerR_onBit0 (isPositiveInfinity_eq_true_iff q) s,
    answerR_onBit0 (isNegativeInfinity_eq_true_iff q) s,
    answerR_onBit0 (isNaN_eq_true_iff q) s,
    answerR_onBit0 (sign_eq_true_iff q) s,
    answerR_onBit0 (isNormal_eq_true_iff q) s,
    answerR_onBit0 (isSubnormal_eq_true_iff q) s⟩

end Sys2Proof.Machine
end

section
/-! What the comparator tests, in terms of the fields and of the signed magnitude (spec/42_comparator.md R151 to R156). -/

namespace Sys2Proof.Machine

open Sys2Proof.Safety

/-! ### The signed magnitude of a pattern -/

/-- The sign is clear of every pattern below the sign bit. -/
theorem sign_eq_false_iff (q : Quad) : sign q = false ↔ ¬ Negative q := by
  rw [← sign_eq_true_iff, Bool.not_eq_true]

/-- A negative pattern counts down from the sign bit. -/
theorem key_of_negative {q : Quad} (h : Negative q) : key q = 2 ^ 127 - (q.toNat : Int) := by
  rw [key, if_pos h]
  omega

/-- A pattern with the sign clear is its own magnitude. -/
theorem key_of_not_negative {q : Quad} (h : ¬ Negative q) : key q = q.toNat := if_neg h

/-- A negative pattern has no magnitude above 0. -/
theorem key_nonpos_of_negative {q : Quad} (h : Negative q) : key q ≤ 0 := by
  rw [key_of_negative h]
  omega

/-- A pattern with the sign clear has no magnitude below 0. -/
theorem key_nonneg_of_not_negative {q : Quad} (h : ¬ Negative q) : 0 ≤ key q := by
  rw [key_of_not_negative h]
  exact Int.natCast_nonneg _

/-- The zero patterns are the two patterns of magnitude 0. -/
theorem zeroPattern_iff_key_eq_zero (q : Quad) : ZeroPattern q ↔ key q = 0 := by
  rw [ZeroPattern, expField, fracField, key]
  split <;> omega

/-- Two patterns have one signed magnitude when they are identical or both zero, and only then. -/
theorem key_eq_key_iff (a b : Quad) : key a = key b ↔ a = b ∨ (ZeroPattern a ∧ ZeroPattern b) := by
  rw [zeroPattern_iff_key_eq_zero, zeroPattern_iff_key_eq_zero, ← BitVec.toNat_inj, key, key]
  split_ifs <;> omega

/-- Of two patterns with differing signs, not both zero, the negative one has the smaller signed magnitude (R154). -/
theorem key_order_of_signs_differ {a b : Quad} (hzeros : ¬ (ZeroPattern a ∧ ZeroPattern b))
    (hsigns : Negative a ↔ ¬ Negative b) : (key a < key b ↔ Negative a) ∧ (key a ≤ key b ↔ Negative a) := by
  rw [zeroPattern_iff_key_eq_zero, zeroPattern_iff_key_eq_zero] at hzeros
  by_cases hsa : Negative a
  · have := key_nonpos_of_negative hsa
    have := key_nonneg_of_not_negative (hsigns.mp hsa)
    simp only [hsa, iff_true]
    omega
  · have := key_nonneg_of_not_negative hsa
    have := key_nonpos_of_negative (not_not.mp (mt hsigns.mpr hsa))
    simp only [hsa, iff_false]
    omega

/-! ### Equality -/

/-- A zero pattern is no NaN pattern. -/
theorem not_nanPattern_of_zeroPattern {q : Quad} (h : ZeroPattern q) : ¬ NanPattern q := fun hnan => hnan.2 h.2

/-- AreZero is two zero patterns (R151). -/
theorem areZero_eq_true_iff (a b : Quad) : areZero a b = true ↔ ZeroPattern a ∧ ZeroPattern b := by
  rw [areZero, Bool.and_eq_true, isZero_eq_true_iff, isZero_eq_true_iff]

/-- `==` in terms of the fields (R152). -/
theorem eqQ_eq_true_iff (a b : Quad) :
    eqQ a b = true ↔ (¬ NanPattern a ∧ ¬ NanPattern b ∧ a = b) ∨ (ZeroPattern a ∧ ZeroPattern b) := by
  simp [eqQ, same, areZero_eq_true_iff, ← isNaN_eq_true_iff, and_assoc]

/-- `==` is false with a NaN (R152). -/
theorem eqQ_of_nan {a b : Quad} (h : NanPattern a ∨ NanPattern b) : eqQ a b = false := by
  rw [← Bool.not_eq_true, eqQ_eq_true_iff]
  rintro (⟨ha, hb, -⟩ | ⟨ha, hb⟩)
  · exact h.elim ha hb
  · exact h.elim (not_nanPattern_of_zeroPattern ha) (not_nanPattern_of_zeroPattern hb)

/-- `==` without a NaN is equality of the signed magnitudes (R154). -/
theorem eqQ_of_not_nan {a b : Quad} (ha : ¬ NanPattern a) (hb : ¬ NanPattern b) :
    eqQ a b = true ↔ key a = key b := by
  simp only [eqQ_eq_true_iff, key_eq_key_iff, ha, hb, not_false_eq_true, true_and]

/-! ### Order -/

/-- The unsigned order of patterns is that of their numbers (R15). -/
theorem ult128_eq_decide (p q : Quad) : ult128 p q = decide (p.toNat < q.toNat) := rfl

/-- The unsigned order is total (R15). -/
theorem ule128_eq_not_ult128 (p q : Quad) : ule128 p q = !ult128 q p := by
  rw [Bool.eq_iff_iff]
  simp [ule128, same, ult128_eq_decide, ← BitVec.toNat_inj, Nat.le_iff_lt_or_eq]

/-- `<` is false with a NaN (R155). -/
theorem ltQ_of_nan {a b : Quad} (h : NanPattern a ∨ NanPattern b) : ltQ a b = false := by
  rw [← isNaN_eq_true_iff, ← isNaN_eq_true_iff, ← Bool.or_eq_true] at h
  rw [ltQ, if_pos h]

/-- `<=` is false with a NaN (R156). -/
theorem leQ_of_nan {a b : Quad} (h : NanPattern a ∨ NanPattern b) : leQ a b = false := by
  rw [← isNaN_eq_true_iff, ← isNaN_eq_true_iff, ← Bool.or_eq_true] at h
  rw [leQ, if_pos h]

/-- `<` without a NaN is the order of the signed magnitudes, by the signs of the operands (R154, R155). -/
theorem ltQ_of_not_nan {a b : Quad} (ha : ¬ NanPattern a) (hb : ¬ NanPattern b) :
    ltQ a b = true ↔ key a < key b := by
  have hprocedure : ltQ a b = if sign a != sign b then (if areZero a b then false else sign a)
      else if !sign a then ult128 a b else ult128 b a := by
    rw [← isNaN_eq_true_iff] at ha hb
    simp only [ltQ, ha, hb, Bool.or_self, Bool.false_eq_true, if_false]
  have hzero : areZero a b = true ↔ key a = 0 ∧ key b = 0 := by
    rw [areZero_eq_true_iff, zeroPattern_iff_key_eq_zero, zeroPattern_iff_key_eq_zero]
  rw [hprocedure]
  by_cases hsa : Negative a
  · by_cases hsb : Negative b
    · rw [key_of_negative hsa, key_of_negative hsb, (sign_eq_true_iff a).mpr hsa, (sign_eq_true_iff b).mpr hsb]
      simp [ult128_eq_decide]
    · have hkey : key a < key b ↔ ¬ (key a = 0 ∧ key b = 0) := by
        have := key_nonpos_of_negative hsa
        have := key_nonneg_of_not_negative hsb
        omega
      rw [hkey, ← hzero, (sign_eq_true_iff a).mpr hsa, (sign_eq_false_iff b).mpr hsb]
      simp
  · by_cases hsb : Negative b
    · have hkey : ¬ key a < key b :=
        not_lt.mpr ((key_nonpos_of_negative hsb).trans (key_nonneg_of_not_negative hsa))
      simp [hkey, (sign_eq_false_iff a).mpr hsa, (sign_eq_true_iff b).mpr hsb]
    · rw [key_of_not_negative hsa, key_of_not_negative hsb, (sign_eq_false_iff a).mpr hsa,
        (sign_eq_false_iff b).mpr hsb]
      simp [ult128_eq_decide]

/-- `<=` without a NaN is the negation of `<` with the operands exchanged, branch by branch of the procedure (R155, R156). -/
theorem leQ_eq_not_ltQ {a b : Quad} (ha : ¬ NanPattern a) (hb : ¬ NanPattern b) : leQ a b = !ltQ b a := by
  have hcomm : areZero b a = areZero a b := Bool.and_comm ..
  rw [← isNaN_eq_true_iff] at ha hb
  simp only [leQ, ltQ, ha, hb, hcomm, ule128_eq_not_ult128]
  by_cases hs : sign a = sign b
  · rw [hs]
    cases sign b <;> simp
  · rw [Bool.eq_not_of_ne hs]
    cases areZero a b <;> simp

/-- `<=` without a NaN is the order of the signed magnitudes (R154, R156). -/
theorem leQ_of_not_nan {a b : Quad} (ha : ¬ NanPattern a) (hb : ¬ NanPattern b) :
    leQ a b = true ↔ key a ≤ key b := by
  rw [leQ_eq_not_ltQ ha hb, Bool.not_eq_true', ← Bool.not_eq_true, ltQ_of_not_nan hb ha, not_lt]

end Sys2Proof.Machine
end

section
/-! The comparison operations (spec/42_comparator.md R152 to R161). -/

namespace Sys2Proof.Machine

open Sys2Proof.Safety

/-! ### The truth each operation answers on `R[0]` -/

section

variable (s : State) (a b : Quad)

@[simp] theorem yes_exec_eq : yes (exec (.eq a b) s) = eqQ a b := onBit0_getLsbD_zero _
@[simp] theorem yes_exec_ne : yes (exec (.ne a b) s) = !eqQ a b := onBit0_getLsbD_zero _
@[simp] theorem yes_exec_lt : yes (exec (.lt a b) s) = ltQ a b := onBit0_getLsbD_zero _
@[simp] theorem yes_exec_le : yes (exec (.le a b) s) = leQ a b := onBit0_getLsbD_zero _
@[simp] theorem yes_exec_gt : yes (exec (.gt a b) s) = ltQ b a := onBit0_getLsbD_zero _
@[simp] theorem yes_exec_ge : yes (exec (.ge a b) s) = leQ b a := onBit0_getLsbD_zero _
@[simp] theorem yes_exec_equals : yes (exec (.equals a b) s) = equalsQ a b := onBit0_getLsbD_zero _

end

/-! ### Equality -/

/-- Settles O29: EQ answers `==` and NE its negation. -/
theorem equalityTreatsZerosAsEqualAndNanAsUnequal : Obligations.EqualityTreatsZerosAsEqualAndNanAsUnequal := by
  intro s a b
  refine ⟨answerR_onBit0 (eqQ_eq_true_iff a b) s, answerR_onBit0 ?_ s⟩
  rw [Bool.not_eq_true', ← Bool.not_eq_true, eqQ_eq_true_iff]

/-- `Equals` differs from `==` on pairs of NaNs and nowhere else (R163). -/
theorem eqQ_ne_equalsQ_iff (a b : Quad) : eqQ a b ≠ equalsQ a b ↔ NanPattern a ∧ NanPattern b := by
  by_cases hnan : NanPattern a ∧ NanPattern b
  · have htrue : (isNaN a && isNaN b) = true := by
      rwa [Bool.and_eq_true, isNaN_eq_true_iff, isNaN_eq_true_iff]
    exact iff_of_true (by simp [equalsQ, htrue, eqQ_of_nan (.inl hnan.1)]) hnan
  · have hfalse : (isNaN a && isNaN b) = false := by
      rwa [← Bool.not_eq_true, Bool.and_eq_true, isNaN_eq_true_iff, isNaN_eq_true_iff]
    exact iff_of_false (by simp [equalsQ, hfalse]) hnan

/-- Settles O36: the two operations answer alike exactly when their truths agree. -/
theorem eqAndEqualsDifferExactlyOnNanPairs : Obligations.EqAndEqualsDifferExactlyOnNanPairs := by
  intro s a b
  have hexec : exec (.eq a b) s = exec (.equals a b) s ↔ eqQ a b = equalsQ a b := by
    refine ⟨fun h => ?_, fun h => congrArg (fun t => answerR s (onBit0 t)) h⟩
    rw [← yes_exec_eq s, h, yes_exec_equals]
  rw [Ne, hexec, ← Ne, eqQ_ne_equalsQ_iff]

/-! ### Order -/

/-- An answer of a false truth is 0. -/
theorem answerR_onBit0_of_false {t : Bool} (h : t = false) (s : State) :
    answerR s (onBit0 t) = .next (answered s 0#128 0#32) := by
  rw [h]
  rfl

/-- An answer of a true truth is 1. -/
theorem answerR_onBit0_of_true {t : Bool} (h : t = true) (s : State) :
    answerR s (onBit0 t) = .next (answered s 1#128 0#32) := by
  rw [h]
  rfl

/-- Settles O30: each clause is what the order of the signed magnitudes says of its signs. -/
theorem relationalOperatorsFollowTheProcedure : Obligations.RelationalOperatorsFollowTheProcedure := by
  intro s a b
  refine ⟨fun hnan => ⟨answerR_onBit0_of_false (ltQ_of_nan hnan) s, answerR_onBit0_of_false (leQ_of_nan hnan) s⟩,
    fun ha hb => ⟨?zeros, ?signsDiffer, ?bothPositive, ?bothNegative⟩, rfl, rfl⟩
  case zeros =>
    intro hza hzb _
    rw [zeroPattern_iff_key_eq_zero] at hza hzb
    have hlt : ltQ a b = false := by
      rw [← Bool.not_eq_true, ltQ_of_not_nan ha hb, hza, hzb]
      exact lt_irrefl 0
    have hle : leQ a b = true := by rw [leQ_of_not_nan ha hb, hza, hzb]
    exact ⟨answerR_onBit0_of_false hlt s, answerR_onBit0_of_true hle s⟩
  case signsDiffer =>
    intro hzeros hsigns
    obtain ⟨hlt, hle⟩ := key_order_of_signs_differ hzeros hsigns
    exact ⟨answerR_onBit0 ((ltQ_of_not_nan ha hb).trans hlt) s, answerR_onBit0 ((leQ_of_not_nan ha hb).trans hle) s⟩
  case bothPositive =>
    intro hsa hsb
    have hlt : ltQ a b = true ↔ a.toNat < b.toNat := by
      rw [ltQ_of_not_nan ha hb, key_of_not_negative hsa, key_of_not_negative hsb, Int.ofNat_lt]
    have hle : leQ a b = true ↔ a.toNat ≤ b.toNat := by
      rw [leQ_of_not_nan ha hb, key_of_not_negative hsa, key_of_not_negative hsb, Int.ofNat_le]
    exact ⟨answerR_onBit0 hlt s, answerR_onBit0 hle s⟩
  case bothNegative =>
    intro hsa hsb
    have hlt : ltQ a b = true ↔ b.toNat < a.toNat := by
      rw [ltQ_of_not_nan ha hb, key_of_negative hsa, key_of_negative hsb]
      omega
    have hle : leQ a b = true ↔ b.toNat ≤ a.toNat := by
      rw [leQ_of_not_nan ha hb, key_of_negative hsa, key_of_negative hsb]
      omega
    exact ⟨answerR_onBit0 hlt s, answerR_onBit0 hle s⟩

/-- Exactly one of `<`, `==` and `>` holds without a NaN, as of the signed magnitudes (R159). -/
theorem ltQ_eqQ_gtQ_cases {a b : Quad} (ha : ¬ NanPattern a) (hb : ¬ NanPattern b) :
    (ltQ a b = true ∧ eqQ a b = false ∧ ltQ b a = false) ∨ (ltQ a b = false ∧ eqQ a b = true ∧ ltQ b a = false) ∨
    (ltQ a b = false ∧ eqQ a b = false ∧ ltQ b a = true) := by
  simp only [← Bool.not_eq_true, ltQ_of_not_nan ha hb, ltQ_of_not_nan hb ha, eqQ_of_not_nan ha hb]
  omega

/-- Settles O32, from the three cases without a NaN, and from each truth being false with one. -/
theorem trichotomyOfComparisons : Obligations.TrichotomyOfComparisons := by
  intro s a b
  refine ⟨fun ha hb => ?_, fun hnan => ?_⟩
  · obtain ⟨hlt, heq, hgt⟩ | ⟨hlt, heq, hgt⟩ | ⟨hlt, heq, hgt⟩ := ltQ_eqQ_gtQ_cases ha hb <;>
      simp [hlt, heq, hgt]
  · simp [eqQ_of_nan hnan, ltQ_of_nan hnan, leQ_of_nan hnan, ltQ_of_nan hnan.symm, leQ_of_nan hnan.symm]

/-! ### Three-way compare -/

/-- The three-way compare without a NaN (R161). -/
theorem cmpQ_of_not_nan {a b : Quad} (ha : ¬ NanPattern a) (hb : ¬ NanPattern b) :
    (ltQ a b = true → cmpQ a b = 0b11#2) ∧ (ltQ b a = true → cmpQ a b = 0b01#2) ∧
    (eqQ a b = true → cmpQ a b = 0b00#2) := by
  obtain ⟨hlt, heq, hgt⟩ | ⟨hlt, heq, hgt⟩ | ⟨hlt, heq, hgt⟩ := ltQ_eqQ_gtQ_cases ha hb <;>
    simp [cmpQ, hlt, heq, hgt]

/-- The three-way compare with a NaN (R161). -/
theorem cmpQ_of_nan {a b : Quad} (h : NanPattern a ∨ NanPattern b) :
    cmpQ a b = if NanPattern a ∧ NanPattern b then 0b00#2 else if NanPattern a then 0b01#2 else 0b11#2 := by
  simp [cmpQ, ltQ_of_nan h, ltQ_of_nan h.symm, eqQ_of_nan h, isNaN_eq_true_iff]

/-- Settles O37: the three-way compare with and without a NaN. -/
theorem cmpAnswersTheThreeWayOrder : Obligations.CmpAnswersTheThreeWayOrder := by
  intro s a b
  refine ⟨cmpQ a b, rfl, ?_⟩
  rw [yes_exec_lt, yes_exec_gt, yes_exec_eq]
  by_cases hnan : NanPattern a ∨ NanPattern b
  · rw [ltQ_of_nan hnan, ltQ_of_nan hnan.symm, eqQ_of_nan hnan, cmpQ_of_nan hnan]
    refine ⟨nofun, nofun, nofun, fun ha hb => if_pos ⟨ha, hb⟩, fun ha hb => ?_, fun ha _ => ?_⟩
    · rw [if_neg fun h => hb h.2, if_pos ha]
    · rw [if_neg fun h => ha h.1, if_neg ha]
  · obtain ⟨ha, hb⟩ := not_or.mp hnan
    obtain ⟨hlt, hgt, heq⟩ := cmpQ_of_not_nan ha hb
    exact ⟨hlt, hgt, heq, fun h => absurd h ha, fun h => absurd h ha, fun _ h => absurd h hb⟩

end Sys2Proof.Machine
end

section
/-! Canonical values and their hashes (spec/42_comparator.md R165, R166). -/

namespace Sys2Proof.Machine

open Sys2Proof.Safety

/-- The constant NaN stands for every NaN (R165). -/
theorem canonical_of_nan {q : Quad} (h : NanPattern q) : canonical q = constNaN := by
  rw [canonical, if_pos ((isNaN_eq_true_iff q).mpr h)]

/-- The constant Zero stands for both zeros (R165). -/
theorem canonical_of_zero {q : Quad} (h : ZeroPattern q) : canonical q = constZero := by
  rw [canonical, if_neg (mt (isNaN_eq_true_iff q).mp (not_nanPattern_of_zeroPattern h)),
    if_pos ((isZero_eq_true_iff q).mpr h)]

/-- Every other pattern stands for itself (R165). -/
theorem canonical_of_not_nan_of_not_zero {q : Quad} (hnan : ¬ NanPattern q) (hzero : ¬ ZeroPattern q) :
    canonical q = q := by
  rw [canonical, if_neg (mt (isNaN_eq_true_iff q).mp hnan), if_neg (mt (isZero_eq_true_iff q).mp hzero)]

/-- The representative of a class stands for itself (R165). -/
@[simp] theorem canonical_canonical (q : Quad) : canonical (canonical q) = canonical q := by
  obtain ⟨-, h⟩ | ⟨-, -, h⟩ | ⟨-, -, h⟩ := canonical_cases q
  · rw [h]
    decide
  · rw [h]
    decide
  · rw [h, h]

/-- CANON answers the canonical value (R165). -/
theorem exec_canon (s : State) (q : Quad) : exec (.canon q) s = .next (answered s (canonical q) 0#32) := rfl

/-- Settles O39, by the class of the value. -/
theorem canonMapsToTheRepresentative : Obligations.CanonMapsToTheRepresentative := by
  intro s q
  refine ⟨canonical q, exec_canon s q, canonical_of_nan, canonical_of_zero, canonical_of_not_nan_of_not_zero, ?_⟩
  rw [exec_canon, canonical_canonical]

/-- HASH answers the hash of the value (R166). -/
theorem exec_hash (s : State) (q : Quad) : exec (.hash q) s = .next (answered s (onLow (hashOf q)) 0#32) := rfl

/-- The width of a hash is in the range the spec sets (R13). -/
theorem hashWidth_bounds : 1 ≤ Config.hashWidth ∧ Config.hashWidth ≤ 128 :=
  ⟨Nat.succ_pos _, Config.hashWidthPred.isLt⟩

/-- Settles O40: the hash is by definition the combination of the words of the canonical value. -/
theorem hashCombinesTheCanonicalWords : Obligations.HashCombinesTheCanonicalWords :=
  ⟨fun s q => ⟨canonical q, exec_canon s q, exec_hash s q⟩, hashWidth_bounds⟩

end Sys2Proof.Machine
end

section
/-! The leading-zero counter (spec/43_lzc_exponent.md R180). -/

namespace Sys2Proof.Machine

open Sys2Proof.Safety

/-- A word of 64 zeros has 64 leading zeros (R180). -/
theorem lzc64_zero : lzc64 0#64 = 64 := rfl

/-- The leading zeros of a word: bits that are all 0, over a 1 bit unless the whole word is 0. -/
theorem lzc64_spec (v : Word) :
    (∀ j, 64 - lzc64 v ≤ j → j < 64 → v.getLsbD j = false) ∧ (lzc64 v < 64 → v.getLsbD (63 - lzc64 v) = true) :=
  (leadingZerosBelow_spec v 64).2

/-- A word with 64 leading zeros is 0, so any other word has fewer. -/
theorem lzc64_lt_of_ne_zero {v : Word} (hv : v ≠ 0#64) : lzc64 v < 64 := by
  refine lt_of_le_of_ne (lzc64_le v) fun h64 => hv (BitVec.eq_of_getLsbD_eq fun j hj => ?_)
  rw [(lzc64_spec v).1 j (by omega) hj, BitVec.getLsbD_zero]

/-- Directly below the leading zeros of a word other than 0 stands a 1 bit. -/
theorem getLsbD_below_lzc64 {v : Word} (hv : v ≠ 0#64) : v.getLsbD (63 - lzc64 v) = true :=
  (lzc64_spec v).2 (lzc64_lt_of_ne_zero hv)

/-- Every bit above its top 1 bit is 0. -/
theorem getLsbD_above_lzc64 {v : Word} (hv : v ≠ 0#64) {j : Nat} (hj : 63 - lzc64 v < j) : v.getLsbD j = false := by
  have hlt := lzc64_lt_of_ne_zero hv
  rcases Nat.lt_or_ge j 64 with h | h
  · exact (lzc64_spec v).1 j (by omega) h
  · exact BitVec.getLsbD_of_ge v j h

/-- LZC64 answers the count: 7 bits hold every count up to 64 (R180). -/
theorem exec_lzc64 (s : State) (v : Word) :
    exec (.lzc64 v) s = .next (answered s (BitVec.ofNat 128 (lzc64 v)) 0#32) := by
  have hcount : (BitVec.ofNat 7 (lzc64 v)).toNat = lzc64 v :=
    Nat.mod_eq_of_lt (Nat.lt_of_le_of_lt (lzc64_le v) (by decide))
  rw [exec, execLzc64, answerR_eq, onLow_eq_ofNat, hcount]

/-- Settles O42: the index of the top 1 bit is 63 less the count. -/
theorem lzcCountsLeadingZeros : Obligations.LzcCountsLeadingZeros := by
  intro s v
  refine ⟨fun hzero => ?_, fun hv => ?_⟩
  · rw [exec_lzc64, hzero, lzc64_zero]
  · have hcount : 63 - (63 - lzc64 v) = lzc64 v := Nat.sub_sub_self (Nat.le_of_lt_succ (lzc64_lt_of_ne_zero hv))
    refine ⟨63 - lzc64 v, Nat.sub_le _ _, getLsbD_below_lzc64 hv, fun j hj => getLsbD_above_lzc64 hv hj, ?_⟩
    rw [exec_lzc64, hcount]

end Sys2Proof.Machine
end

section
/-! The exponent renormalizer (spec/43_lzc_exponent.md R182, R183). -/

namespace Sys2Proof.Machine

open Sys2Proof.Safety

/-- XRENORM with a format answers the exponent of that format (R182). -/
theorem exec_xrenorm_of_format {fmt : BitVec 2} {f : SourceFormat} (hf : formatOf fmt = some f) (be : BitVec 11)
    (sh : BitVec 6) (s : State) :
    exec (.xrenorm fmt be sh) s = .next (answered s (onLow (xrenorm f be sh.toNat)) 0#32) := by
  simp only [exec, execXrenorm, hf, answerR_eq]

/-- Over every 11-bit exponent and every 6-bit shift the integer of XRENORM lies between -1085 (binary64, a shift of 63) and the
sentinel (R185 (c)). -/
theorem renormExponent_bounds (f : SourceFormat) (be : BitVec 11) {sh : Nat} (hsh : sh < 64) :
    -1085 ≤ renormExponent f be sh ∧ renormExponent f be sh ≤ 16384 := by
  have hbias : 15 ≤ expBias f ∧ expBias f ≤ 1023 := by cases f <;> decide
  have hbe : be.toNat % 2 ^ expWidth f < 2 ^ 11 := (Nat.mod_le _ _).trans_lt be.isLt
  rw [renormExponent, sentinel]
  split_ifs <;> omega

/-- The 16 bits of XRENORM's result are that integer: nothing wraps (R182). -/
theorem xrenorm_toInt (f : SourceFormat) (be : BitVec 11) {sh : Nat} (hsh : sh < 64) :
    (xrenorm f be sh).toInt = renormExponent f be sh := by
  obtain ⟨hlow, hhigh⟩ := renormExponent_bounds f be hsh
  exact BitVec.toInt_ofInt_eq_self (by decide) (by omega) (by omega)

/-- The rows of R182's format table: the format a number selects, with its exponent width and bias. -/
theorem formatOf_of_mem_table {fmt : BitVec 2} {E b : Nat}
    (h : (fmt, E, b) ∈ [(0#2, 5, 15), (1#2, 8, 127), (2#2, 11, 1023)]) :
    ∃ f, formatOf fmt = some f ∧ expWidth f = E ∧ expBias f = b := by
  simp only [List.mem_cons, Prod.mk.injEq, List.not_mem_nil, or_false] at h
  obtain ⟨rfl, rfl, rfl⟩ | ⟨rfl, rfl, rfl⟩ | ⟨rfl, rfl, rfl⟩ := h
  · exact ⟨.binary16, rfl, rfl, rfl⟩
  · exact ⟨.binary32, rfl, rfl, rfl⟩
  · exact ⟨.binary64, rfl, rfl, rfl⟩

/-- Settles O43: a format of the table gives its unbiased exponent, which 16 bits hold. -/
theorem xrenormUnbiasesTheSourceExponent : Obligations.XrenormUnbiasesTheSourceExponent := by
  intro s fmt be sh
  refine ⟨fun hfmt => ?_, fun E b hrow => ?_⟩
  · rw [hfmt]
    exact exec_xrenorm_of_reserved be sh s
  · obtain ⟨f, hf, hwidth, hbias⟩ := formatOf_of_mem_table hrow
    refine ⟨xrenorm f be sh.toNat, exec_xrenorm_of_format hf be sh s, ?_⟩
    rw [xrenorm_toInt f be sh.isLt, renormExponent, hwidth, hbias, sentinel]

/-- REBIAS answers the re-biased exponent (R183). -/
theorem exec_rebias (s : State) (e : BitVec 16) : exec (.rebias e) s = .next (answered s (onLow (rebias e)) 0#32) := rfl

/-- Settles O44: the 15 bits stand alone on `R`, so `R` is the sum modulo `2^15`. -/
theorem rebiasWrapsToFifteenBits : Obligations.RebiasWrapsToFifteenBits := by
  intro s e
  refine ⟨onLow (rebias e), exec_rebias s e, ?_⟩
  rw [onLow, BitVec.toNat_setWidth_of_le (by decide), rebias_toNat]

end Sys2Proof.Machine
end

section
/-! The float import family: one algorithm for the three source formats (spec/44_float_import.md R200 to R209). -/

namespace Sys2Proof.Machine

open Sys2Proof.Safety

/-! ### A tuple construction and the placed fraction as numbers -/

/-- The upper part of a concatenation counts in units of the lower part's range. -/
theorem append_toNat {m n : Nat} (x : BitVec m) (y : BitVec n) : (x ++ y).toNat = x.toNat * 2 ^ n + y.toNat := by
  rw [BitVec.toNat_append, ← Nat.shiftLeft_add_eq_or_of_lt y.isLt, Nat.shiftLeft_eq]

/-- The placed fraction keeps its number, in units of its lowest bit: the 112 bits hold it (R203). -/
theorem shl_setWidth_toNat {F : Nat} (hF : F ≤ 112) (fn : BitVec F) :
    (shl (fn.setWidth 112) (112 - F)).toNat = fn.toNat * 2 ^ (112 - F) := by
  have hfits : fn.toNat * 2 ^ (112 - F) < 2 ^ 112 := by
    calc fn.toNat * 2 ^ (112 - F) < 2 ^ F * 2 ^ (112 - F) := Nat.mul_lt_mul_of_pos_right fn.isLt (Nat.two_pow_pos _)
      _ = 2 ^ 112 := by rw [← Nat.pow_add, Nat.add_sub_cancel' hF]
  rw [shl, BitVec.toNat_shiftLeft, BitVec.toNat_setWidth_of_le hF, Nat.shiftLeft_eq, Nat.mod_eq_of_lt hfits]

/-- The two words of a 112-bit significand make the significand. -/
theorem significand_words (v : BitVec 112) : v.extractLsb' 64 48 ++ v.extractLsb' 0 64 = v :=
  (BitVec.extractLsb'_append_extractLsb'_eq_extractLsb' rfl).trans BitVec.extractLsb'_eq_self

/-- A constructed value as a number: sign, exponent field and placed fraction (R102, R203). -/
theorem placeFraction_toNat {F : Nat} (hF : F ≤ 112) (s : Bool) (x : BitVec 16) (fn : BitVec F) :
    (placeFraction s x fn).toNat = s.toNat * 2 ^ 127 + (rebias x).toNat * 2 ^ 112 + fn.toNat * 2 ^ (112 - F) := by
  have hsig := congrArg BitVec.toNat (significand_words (shl (fn.setWidth 112) (112 - F)))
  rw [append_toNat, shl_setWidth_toNat hF] at hsig
  rw [placeFraction, encTuple, append_toNat, append_toNat, append_toNat, BitVec.toNat_ofBool, ← hsig]
  ring

/-! ### The exponent field by class of source -/

/-- Re-biasing the exponent of XRENORM does not wrap (R185). -/
theorem rebias_xrenorm_toNat (f : SourceFormat) (be : BitVec 11) {sh : Nat} (hsh : sh < 64) :
    ((rebias (xrenorm f be sh)).toNat : Int) = renormExponent f be sh + 16383 := by
  obtain ⟨hlow, hhigh⟩ := renormExponent_bounds f be hsh
  rw [rebias_toNat, xrenorm_toInt f be hsh, Int.emod_eq_of_lt (by omega) (by omega)]

/-- XRENORM reads the exponent field of a source in full: no format has more than 11 exponent bits (R182). -/
theorem renormExponent_setWidth (f : SourceFormat) (be : BitVec (expWidth f)) (sh : Nat) :
    renormExponent f (be.setWidth 11) sh =
      if be.toNat = 2 ^ expWidth f - 1 then 16384
      else if be.toNat = 0 then 1 - expBias f - sh
      else be.toNat - expBias f := by
  have hwidth : expWidth f ≤ 11 := by cases f <;> decide
  rw [renormExponent, sentinel, BitVec.toNat_setWidth_of_le hwidth, Nat.mod_eq_of_lt be.isLt]

/-- An infinity or a NaN gets the largest exponent field. -/
theorem rebias_xrenorm_of_special {f : SourceFormat} {be : BitVec (expWidth f)} (hbe : be.toNat = 2 ^ expWidth f - 1) :
    (rebias (xrenorm f (be.setWidth 11) 0)).toNat = 0x7FFF := by
  have h := rebias_xrenorm_toNat f (be.setWidth 11) (sh := 0) (by decide)
  rw [renormExponent_setWidth, if_pos hbe] at h
  omega

/-- A normal source's exponent is moved from the bias of its format to that of binary128. -/
theorem rebias_xrenorm_of_normal {f : SourceFormat} {be : BitVec (expWidth f)} {b : Nat} (hb : expBias f = b)
    (hpos : 0 < be.toNat) (hlt : be.toNat < 2 ^ expWidth f - 1) :
    (rebias (xrenorm f (be.setWidth 11) 0)).toNat = be.toNat + 16383 - b := by
  have h := rebias_xrenorm_toNat f (be.setWidth 11) (sh := 0) (by decide)
  rw [renormExponent_setWidth, if_neg hlt.ne, if_neg hpos.ne', hb] at h
  omega

/-- A subnormal source's exponent is the least of its format, less the shift. -/
theorem rebias_xrenorm_of_subnormal {f : SourceFormat} {be : BitVec (expWidth f)} {b sh : Nat} (hb : expBias f = b)
    (hbe : be.toNat = 0) (hsh : sh < 64) : (rebias (xrenorm f (be.setWidth 11) sh)).toNat = 16384 - b - sh := by
  have hmax : 0 < 2 ^ expWidth f - 1 := by cases f <;> decide
  have h := rebias_xrenorm_toNat f (be.setWidth 11) hsh
  rw [renormExponent_setWidth, if_neg (hbe ▸ hmax.ne), if_pos hbe, hb] at h
  omega

/-! ### Normalising a subnormal source -/

/-- The count of a word other than 0 by the position of its leading 1 (R180). -/
theorem lzc64_eq_sub_log2 {v : Word} (hv : v ≠ 0#64) : lzc64 v = 63 - Nat.log2 v.toNat := by
  have hlow : 2 ^ (63 - lzc64 v) ≤ v.toNat := Nat.ge_two_pow_of_testBit (getLsbD_below_lzc64 hv)
  have hhigh : v.toNat < 2 ^ (63 - lzc64 v + 1) :=
    Nat.lt_pow_two_of_testBit _ fun j hj => getLsbD_above_lzc64 hv (Nat.lt_of_succ_le hj)
  have hlog : Nat.log2 v.toNat = 63 - lzc64 v :=
    (Nat.log2_eq_iff fun hzero => hv (BitVec.eq_of_toNat_eq hzero)).mpr ⟨hlow, hhigh⟩
  have hlt := lzc64_lt_of_ne_zero hv
  omega

/-- Shifting left moves the leading 1. -/
theorem log2_mul_two_pow {v : Nat} (hv : v ≠ 0) (sh : Nat) : Nat.log2 (v * 2 ^ sh) = Nat.log2 v + sh := by
  induction sh with
  | zero => simp
  | succ sh ih =>
    have hne : v * 2 ^ sh ≠ 0 := by positivity
    rw [Nat.pow_succ', Nat.mul_left_comm, Nat.log2_two_mul hne, ih, Nat.add_assoc]

/-- A shift that takes the leading 1 to bit `F` makes up the distance between the two. -/
theorem log2_add_shift_eq {F v sh : Nat} (hlow : 2 ^ F ≤ v * 2 ^ sh) (hhigh : v * 2 ^ sh < 2 ^ (F + 1)) :
    Nat.log2 v + sh = F := by
  have hshifted : v * 2 ^ sh ≠ 0 := ((Nat.two_pow_pos F).trans_le hlow).ne'
  rw [← log2_mul_two_pow (left_ne_zero_of_mul hshifted)]
  exact (Nat.log2_eq_iff hshifted).mpr ⟨hlow, hhigh⟩

/-- The shift that takes the leading 1 of a fraction to bit `F` is one more than its leading zeros (R202). -/
theorem lzcN_add_one_eq {F sh : Nat} (hF : F ≤ 64) {v : BitVec F} (hv : v ≠ 0#F) (hlow : 2 ^ F ≤ v.toNat * 2 ^ sh)
    (hhigh : v.toNat * 2 ^ sh < 2 ^ (F + 1)) : lzcN v + 1 = sh := by
  have hnat : v.toNat ≠ 0 := fun h => hv (BitVec.eq_of_toNat_eq h)
  have hbelow : Nat.log2 v.toNat < F := (Nat.log2_lt hnat).mpr v.isLt
  have hlog := log2_add_shift_eq hlow hhigh
  have hwiden : (v.setWidth 64).toNat = v.toNat := BitVec.toNat_setWidth_of_le hF
  have hword : v.setWidth 64 ≠ 0#64 := fun h => hnat (by rw [← hwiden, h, BitVec.toNat_zero])
  rw [lzcN, lzc64_eq_sub_log2 hword, hwiden]
  omega

/-- The shift drops the leading 1 of the fraction from its field (R202). -/
theorem shl_toNat_of_leading_one {F sh : Nat} {v : BitVec F} (hlow : 2 ^ F ≤ v.toNat * 2 ^ sh)
    (hhigh : v.toNat * 2 ^ sh < 2 ^ (F + 1)) : (shl v sh).toNat = v.toNat * 2 ^ sh - 2 ^ F := by
  rw [shl, BitVec.toNat_shiftLeft, Nat.shiftLeft_eq, Nat.mod_eq_sub_mod hlow, Nat.mod_eq_of_lt (by omega)]

/-! ### The conversion by class of source -/

/-- `fimport` at the field widths of a source format (R200). -/
def importSource (f : SourceFormat) (p : BitVec (expWidth f + fracWidth f + 1)) : Quad :=
  fimport (expWidth f + fracWidth f + 1) (expWidth f) (fracWidth f) f p

/-- F16TOQ answers the conversion of a binary16 source (R204). -/
theorem exec_f16toq (s : State) (p : BitVec 16) :
    exec (.f16toq p) s = .next (answered s (importSource .binary16 p) 0#32) := rfl

/-- F32TOQ answers the conversion of a binary32 source (R205). -/
theorem exec_f32toq (s : State) (p : BitVec 32) :
    exec (.f32toq p) s = .next (answered s (importSource .binary32 p) 0#32) := rfl

/-- F64TOQ answers the conversion of a binary64 source (R206). -/
theorem exec_f64toq (s : State) (p : BitVec 64) :
    exec (.f64toq p) s = .next (answered s (importSource .binary64 p) 0#32) := rfl

section

variable {f : SourceFormat} (p : BitVec (expWidth f + fracWidth f + 1))

/-- The sign of a source is its top bit (R201). -/
theorem source_sign_toNat :
    (p.getLsbD (expWidth f + fracWidth f)).toNat = p.toNat / 2 ^ (expWidth f + fracWidth f) := by
  have hlt : p.toNat / 2 ^ (expWidth f + fracWidth f) < 2 := Nat.div_lt_of_lt_mul (Nat.pow_succ .. ▸ p.isLt)
  rw [BitVec.getLsbD, Nat.toNat_testBit, Nat.mod_eq_of_lt hlt]

/-- The exponent field of a source as a number (R201). -/
theorem source_exponent_toNat :
    (p.extractLsb' (fracWidth f) (expWidth f)).toNat = p.toNat / 2 ^ fracWidth f % 2 ^ expWidth f := by
  rw [BitVec.extractLsb'_toNat, Nat.shiftRight_eq_div_pow]

/-- The fraction field of a source as a number (R201). -/
theorem source_fraction_toNat : (p.extractLsb' 0 (fracWidth f)).toNat = p.toNat % 2 ^ fracWidth f := by
  rw [BitVec.extractLsb'_toNat, Nat.shiftRight_zero]

/-- A zero source gives the zero of its sign (R202). -/
theorem importSource_toNat_of_zero (hbe : p.toNat / 2 ^ fracWidth f % 2 ^ expWidth f = 0)
    (hf : p.toNat % 2 ^ fracWidth f = 0) :
    (importSource f p).toNat = p.toNat / 2 ^ (expWidth f + fracWidth f) * 2 ^ 127 := by
  rw [← source_exponent_toNat] at hbe
  rw [← source_fraction_toNat] at hf
  rw [importSource, fimport, if_pos ⟨BitVec.eq_of_toNat_eq hbe, BitVec.eq_of_toNat_eq hf⟩, append_toNat,
    BitVec.toNat_ofBool, Nat.add_sub_cancel, source_sign_toNat, BitVec.toNat_zero, Nat.add_zero]

/-- A source with an exponent field other than 0 keeps its fraction as it stands (R202, R203). -/
theorem importSource_toNat_of_exponent_ne_zero (hbe : p.toNat / 2 ^ fracWidth f % 2 ^ expWidth f ≠ 0) :
    (importSource f p).toNat = p.toNat / 2 ^ (expWidth f + fracWidth f) * 2 ^ 127 +
      (rebias (xrenorm f ((p.extractLsb' (fracWidth f) (expWidth f)).setWidth 11) 0)).toNat * 2 ^ 112 +
      p.toNat % 2 ^ fracWidth f * 2 ^ (112 - fracWidth f) := by
  have hfrac : fracWidth f ≤ 112 := by cases f <;> decide
  have hexp : p.extractLsb' (fracWidth f) (expWidth f) ≠ 0#(expWidth f) := fun h =>
    hbe (by rw [← source_exponent_toNat, h, BitVec.toNat_zero])
  rw [importSource, fimport, if_neg (fun h => hexp h.1), if_neg hexp, placeFraction_toNat hfrac, Nat.add_sub_cancel,
    source_sign_toNat, source_fraction_toNat]

/-- A subnormal source gives up the leading 1 of its fraction, which becomes the implicit bit (R202, R203). -/
theorem importSource_toNat_of_subnormal {b sh : Nat} (hb : expBias f = b)
    (hbe : p.toNat / 2 ^ fracWidth f % 2 ^ expWidth f = 0)
    (hlow : 2 ^ fracWidth f ≤ p.toNat % 2 ^ fracWidth f * 2 ^ sh)
    (hhigh : p.toNat % 2 ^ fracWidth f * 2 ^ sh < 2 ^ (fracWidth f + 1)) :
    (importSource f p).toNat = p.toNat / 2 ^ (expWidth f + fracWidth f) * 2 ^ 127 + (16384 - b - sh) * 2 ^ 112 +
      (p.toNat % 2 ^ fracWidth f * 2 ^ sh - 2 ^ fracWidth f) * 2 ^ (112 - fracWidth f) := by
  have hfrac : fracWidth f < 64 := by cases f <;> decide
  rw [← source_exponent_toNat] at hbe
  rw [← source_fraction_toNat] at hlow hhigh ⊢
  have hne : p.extractLsb' 0 (fracWidth f) ≠ 0#(fracWidth f) := fun h => by
    rw [h, BitVec.toNat_zero, Nat.zero_mul] at hlow
    exact absurd hlow (Nat.two_pow_pos _).not_ge
  have hsh : sh < 64 := by
    have := log2_add_shift_eq hlow hhigh
    omega
  have hcount := lzcN_add_one_eq (by omega) hne hlow hhigh
  rw [importSource, fimport, if_neg (fun h => hne h.2), if_pos (BitVec.eq_of_toNat_eq hbe), hcount,
    placeFraction_toNat (by omega), Nat.add_sub_cancel, source_sign_toNat, rebias_xrenorm_of_subnormal hb hbe hsh,
    shl_toNat_of_leading_one hlow hhigh]

/-- An infinity or a NaN keeps sign and fraction under the largest exponent field (R203, R209). -/
theorem importSource_toNat_of_special (hbe : p.toNat / 2 ^ fracWidth f % 2 ^ expWidth f = 2 ^ expWidth f - 1) :
    (importSource f p).toNat = p.toNat / 2 ^ (expWidth f + fracWidth f) * 2 ^ 127 + 0x7FFF * 2 ^ 112 +
      p.toNat % 2 ^ fracWidth f * 2 ^ (112 - fracWidth f) := by
  have hmax : 2 ^ expWidth f - 1 ≠ 0 := by cases f <;> decide
  rw [importSource_toNat_of_exponent_ne_zero p (hbe ▸ hmax),
    rebias_xrenorm_of_special ((source_exponent_toNat p).trans hbe)]

/-- A normal source keeps sign and fraction under its re-biased exponent (R203). -/
theorem importSource_toNat_of_normal {b : Nat} (hb : expBias f = b)
    (hpos : 0 < p.toNat / 2 ^ fracWidth f % 2 ^ expWidth f)
    (hlt : p.toNat / 2 ^ fracWidth f % 2 ^ expWidth f < 2 ^ expWidth f - 1) :
    (importSource f p).toNat = p.toNat / 2 ^ (expWidth f + fracWidth f) * 2 ^ 127 +
      (p.toNat / 2 ^ fracWidth f % 2 ^ expWidth f + 16383 - b) * 2 ^ 112 +
      p.toNat % 2 ^ fracWidth f * 2 ^ (112 - fracWidth f) := by
  rw [importSource_toNat_of_exponent_ne_zero p hpos.ne']
  rw [← source_exponent_toNat] at hpos hlt ⊢
  rw [rebias_xrenorm_of_normal hb hpos hlt]

/-- The conversion is the one the rules describe field by field, for every class of source (R202 to R206). -/
theorem importSource_floatImported {b : Nat} (hb : expBias f = b) :
    FloatImported (expWidth f) (fracWidth f) b p.toNat (importSource f p).toNat :=
  ⟨importSource_toNat_of_zero p, importSource_toNat_of_special p, importSource_toNat_of_normal p hb,
    fun _ hbe _ hlow hhigh => importSource_toNat_of_subnormal p hb hbe hlow hhigh⟩

/-- A source with the largest exponent field as a pattern (R209). -/
theorem importSource_of_special (hbe : p.toNat / 2 ^ fracWidth f % 2 ^ expWidth f = 2 ^ expWidth f - 1) :
    importSource f p = BitVec.ofNat 128 (p.toNat / 2 ^ (expWidth f + fracWidth f) * 2 ^ 127 + 0x7FFF * 2 ^ 112 +
      p.toNat % 2 ^ fracWidth f * 2 ^ (112 - fracWidth f)) := by
  rw [← importSource_toNat_of_special p hbe, BitVec.ofNat_toNat, BitVec.setWidth_eq]

end

/-! ### The operations -/

/-- Settles O46: the conversion at the widths and the bias of binary16. -/
theorem f16toqPlacesFields : Obligations.F16toqPlacesFields := fun s p =>
  ⟨importSource .binary16 p, exec_f16toq s p, importSource_floatImported (f := .binary16) p rfl⟩

/-- Settles O47: the conversion at the widths and the bias of binary32. -/
theorem f32toqPlacesFields : Obligations.F32toqPlacesFields := fun s p =>
  ⟨importSource .binary32 p, exec_f32toq s p, importSource_floatImported (f := .binary32) p rfl⟩

/-- Settles O48: the conversion at the widths and the bias of binary64. -/
theorem f64toqPlacesFields : Obligations.F64toqPlacesFields := fun s p =>
  ⟨importSource .binary64 p, exec_f64toq s p, importSource_floatImported (f := .binary64) p rfl⟩

/-- Settles O51: a NaN has the largest exponent field; the three default quiet NaNs are computed. -/
theorem nanPayloadGoesToTheTop : Obligations.NanPayloadGoesToTheTop := by
  intro s
  refine ⟨fun p hbe _ => ?binary16, fun p hbe _ => ?binary32, fun p hbe _ => ?binary64, ?_, ?_, ?_⟩
  case binary16 =>
    rw [exec_f16toq, importSource_of_special (f := .binary16) p hbe]
    rfl
  case binary32 =>
    rw [exec_f32toq, importSource_of_special (f := .binary32) p hbe]
    rfl
  case binary64 =>
    rw [exec_f64toq, importSource_of_special (f := .binary64) p hbe]
    rfl
  all_goals rfl

end Sys2Proof.Machine
end

section
/-! The integer import family: one algorithm for the three integer types (spec/45_int_import.md R220 to R225). -/

namespace Sys2Proof.Machine

open Sys2Proof.Safety

/-! ### The magnitude's fields -/

/-- The leading 1 lies inside the word. -/
theorem leading_one_lt_width {W x : Nat} {m : BitVec W} (hlow : 2 ^ x ≤ m.toNat) : x < W :=
  (Nat.pow_lt_pow_iff_right (by decide)).mp (hlow.trans_lt m.isLt)

/-- The count of a magnitude gives back the position of its leading 1 (R222). -/
theorem sub_lzcN_eq_of_leading_one {W x : Nat} (hW : W ≤ 64) {m : BitVec W} (hlow : 2 ^ x ≤ m.toNat)
    (hhigh : m.toNat < 2 ^ (x + 1)) : W - 1 - lzcN m = x := by
  have hx := leading_one_lt_width hlow
  have hne : m ≠ 0#W := by
    rintro rfl
    exact (Nat.two_pow_pos x).not_ge hlow
  have hcount : lzcN m + 1 = W - x := by
    refine lzcN_add_one_eq hW hne ?_ ?_
    · calc 2 ^ W = 2 ^ x * 2 ^ (W - x) := by rw [← Nat.pow_add, Nat.add_sub_cancel' hx.le]
        _ ≤ m.toNat * 2 ^ (W - x) := Nat.mul_le_mul_right _ hlow
    · calc m.toNat * 2 ^ (W - x) < 2 ^ (x + 1) * 2 ^ (W - x) := Nat.mul_lt_mul_of_pos_right hhigh (Nat.two_pow_pos _)
        _ = 2 ^ (W + 1) := by rw [← Nat.pow_add]; congr 1; omega
  omega

/-- Re-biasing the position of a leading 1 does not wrap (R222). -/
theorem rebias_ofNat_toNat {x : Nat} (hx : x < 64) : (rebias (BitVec.ofNat 16 x)).toNat = 16383 + x := by
  have hint : (BitVec.ofNat 16 x).toInt = x := by
    rw [BitVec.toInt_ofNat', Int.bmod_eq_of_le (by omega) (by omega)]
  have h := rebias_toNat (BitVec.ofNat 16 x)
  omega

/-- The bits below the leading 1 are the fraction: a magnitude is placed as a float source's fraction of `x` bits is (R222,
R203). -/
theorem placeMagnitude_eq_placeFraction {W x : Nat} (hW : W ≤ 64) (s : Bool) {m : BitVec W} (hlow : 2 ^ x ≤ m.toNat)
    (hhigh : m.toNat < 2 ^ (x + 1)) :
    placeMagnitude s m = placeFraction s (BitVec.ofNat 16 x) (BitVec.ofNat x (m.toNat - 2 ^ x)) := by
  have hx := leading_one_lt_width hlow
  rw [placeMagnitude, placeFraction, sub_lzcN_eq_of_leading_one hW hlow hhigh,
    BitVec.setWidth_ofNat_of_le_of_lt (by omega) (by omega)]

/-- A placed magnitude as a number: sign, exponent field and fraction (R222). -/
theorem placeMagnitude_toNat {W x : Nat} (hW : W ≤ 64) (s : Bool) {m : BitVec W} (hlow : 2 ^ x ≤ m.toNat)
    (hhigh : m.toNat < 2 ^ (x + 1)) :
    (placeMagnitude s m).toNat = s.toNat * 2 ^ 127 + (16383 + x) * 2 ^ 112 + (m.toNat - 2 ^ x) * 2 ^ (112 - x) := by
  have hx := leading_one_lt_width hlow
  have hfrac : m.toNat - 2 ^ x < 2 ^ x := by omega
  rw [placeMagnitude_eq_placeFraction hW s hlow hhigh, placeFraction_toNat (by omega), rebias_ofNat_toNat (by omega),
    BitVec.toNat_ofNat, Nat.mod_eq_of_lt hfrac]

/-- The magnitude of a non-zero integer, placed under the integer's sign, is the conversion field by field. -/
theorem placeMagnitude_integerImported {W : Nat} (hW : W ≤ 64) {k : Int} {m : BitVec W} (hk : k ≠ 0)
    (hm : m.toNat = k.natAbs) : IntegerImported k (placeMagnitude (decide (k < 0)) m).toNat := by
  refine ⟨fun h => absurd h hk, fun x hlow hhigh => ?_⟩
  rw [← hm] at hlow hhigh ⊢
  rw [placeMagnitude_toNat hW _ hlow hhigh]
  by_cases hneg : k < 0 <;> simp [hneg]

/-! ### The conversion by sign of the integer -/

/-- Zero is answered by the constant, whatever the signedness (R220). -/
theorem iimport_zero {W : Nat} (signed : Bool) : iimport signed 0#W = constZero := if_pos rfl

/-- A non-zero unsigned integer is its own magnitude (R221). -/
theorem iimport_unsigned {W : Nat} {n : BitVec W} (hn : n ≠ 0#W) : iimport false n = placeMagnitude false n := by
  rw [iimport, if_neg hn, Bool.false_and, if_neg Bool.false_ne_true]

/-- A non-zero signed integer is placed under its sign by its magnitude; the `W` bits hold the magnitude of the most negative
one too (R221). -/
theorem iimport_signed {W : Nat} {n : BitVec W} (hn : n ≠ 0#W) :
    ∃ m : BitVec W, m.toNat = n.toInt.natAbs ∧ iimport true n = placeMagnitude (decide (n.toInt < 0)) m := by
  rw [← BitVec.msb_eq_toInt, iimport, if_neg hn, Bool.true_and, ← BitVec.msb_eq_getLsbD_last]
  cases hmsb : n.msb with
  | true =>
    refine ⟨-n, ?_, if_pos rfl⟩
    rw [BitVec.toInt_eq_neg_toNat_neg_of_msb_true hmsb, Int.natAbs_neg, Int.natAbs_natCast]
  | false =>
    refine ⟨n, ?_, if_neg Bool.false_ne_true⟩
    rw [BitVec.toInt_eq_toNat_of_msb hmsb, Int.natAbs_natCast]

/-- The constant of zero is the conversion of zero, field by field: a magnitude of 0 has no leading 1. -/
theorem constZero_integerImported : IntegerImported 0 constZero.toNat :=
  ⟨fun _ => rfl, fun x hlow _ => absurd hlow (Nat.two_pow_pos x).not_ge⟩

/-- The signed conversion is the one the rules describe field by field, at every width up to a word (R220 to R222). -/
theorem iimport_signed_integerImported {W : Nat} (hW : W ≤ 64) (n : BitVec W) :
    IntegerImported n.toInt (iimport true n).toNat := by
  by_cases hn : n = 0#W
  · rw [hn, iimport_zero, BitVec.toInt_zero]
    exact constZero_integerImported
  · obtain ⟨m, hm, hplaced⟩ := iimport_signed hn
    rw [hplaced]
    exact placeMagnitude_integerImported hW (fun h => hn (BitVec.eq_of_toInt_eq (h.trans BitVec.toInt_zero.symm))) hm

/-- The unsigned conversion is the one the rules describe field by field, at every width up to a word (R220 to R222). -/
theorem iimport_unsigned_integerImported {W : Nat} (hW : W ≤ 64) (n : BitVec W) :
    IntegerImported (n.toNat : Int) (iimport false n).toNat := by
  by_cases hn : n = 0#W
  · rw [hn, iimport_zero, BitVec.toNat_zero]
    exact constZero_integerImported
  · have hpos : (n.toNat : Int) ≠ 0 := fun h => hn (BitVec.eq_of_toNat_eq (Int.ofNat_eq_zero.mp h))
    have hsign : decide ((n.toNat : Int) < 0) = false := decide_eq_false (Int.natCast_nonneg _).not_gt
    have hplaced := placeMagnitude_integerImported hW (m := n) hpos (Int.natAbs_natCast _).symm
    rwa [hsign, ← iimport_unsigned hn] at hplaced

/-! ### The operations -/

/-- I32TOQ answers the signed conversion (R223). -/
theorem exec_i32toq (s : State) (n : BitVec 32) : exec (.i32toq n) s = .next (answered s (iimport true n) 0#32) := rfl

/-- I64TOQ answers the signed conversion (R224). -/
theorem exec_i64toq (s : State) (n : BitVec 64) : exec (.i64toq n) s = .next (answered s (iimport true n) 0#32) := rfl

/-- U64TOQ answers the unsigned conversion (R225). -/
theorem exec_u64toq (s : State) (n : BitVec 64) : exec (.u64toq n) s = .next (answered s (iimport false n) 0#32) := rfl

/-- Settles O53: the one algorithm at the width and the signedness of each unit. -/
theorem integerImportPlacesFields : Obligations.IntegerImportPlacesFields := fun s =>
  ⟨fun n => ⟨iimport true n, exec_i32toq s n, iimport_signed_integerImported (by decide) n⟩,
    fun n => ⟨iimport true n, exec_i64toq s n, iimport_signed_integerImported (by decide) n⟩,
    fun n => ⟨iimport false n, exec_u64toq s n, iimport_unsigned_integerImported (by decide) n⟩⟩

end Sys2Proof.Machine
end

section
/-! The three conditions of `InvalidOperation` against the instruction a request decodes to (spec/60_exceptions.md R301): a
reserved code decodes to none, and the two conditions on `A` are the two ill-formed instructions. -/

namespace Sys2Proof.Machine

open Sys2Proof.Safety

/-- A row's operands make an ill-formed instruction exactly under the conditions of R301 on `A`: CONST takes its index from
`A[3:0]`, XRENORM its format from `A[1:0]`, and the code of a row is not reserved. -/
theorem operands_wf_eq_false_iff {row : OpRow} (h : row ∈ opRows) (A B : Quad) :
    (row.operands A B).wf = false ↔ invalidRequest ⟨row.code, A, B⟩ = true := by
  rw [invalidRequest, (reservedOp_eq_false_iff_mem_codes row.code).mpr (List.mem_map_of_mem h), Bool.false_or]
  revert row
  simp only [opRows, encoderRows, decoderRows, classifierRows, comparatorRows, importerRows, helperRows,
    List.forall_mem_append, List.forall_mem_cons]
  simp [Instr.wf, ← BitVec.toNat_inj, Nat.succ_le_iff]

/-- A request that decodes meets a condition of R301 exactly when its instruction is ill-formed. -/
theorem wf_eq_false_iff_of_decode {r : Request} {i : Instr} (h : decode r = .ok i) :
    i.wf = false ↔ invalidRequest r = true := by
  cases hrow : rowOf r.op with
  | none =>
    rw [decode_of_no_row hrow] at h
    cases h
  | some row =>
    obtain ⟨hmem, hcode⟩ := rowOf_code hrow
    obtain rfl : row.operands r.A r.B = i := Except.ok.inj ((decode_of_row hrow).symm.trans h)
    rw [operands_wf_eq_false_iff hmem, hcode]

/-- A reserved code is one of the conditions of R301. -/
theorem invalidRequest_of_reserved {r : Request} (h : reservedOp r.op = true) : invalidRequest r = true := by
  rw [invalidRequest, h, Bool.true_or, Bool.true_or]

/-- A step on a request that meets a condition of R301 is rejected: by its code, or by its ill-formed instruction. -/
theorem step_of_invalidRequest {s : State} (h : invalidRequest s.request = true) : step s = .next (rejected s) := by
  obtain ⟨hreserved, -, -⟩ := reservedCodesRaiseInvalidOperation
  obtain ⟨hillFormed, -, -⟩ := reservedSubIndexRaisesInvalidOperation
  cases hop : reservedOp s.op with
  | true => exact (hreserved s hop).2
  | false =>
    obtain ⟨i, hi, -⟩ := decode_of_not_reserved (r := s.request) hop
    exact (step_of_decode hi).trans (hillFormed i s ((wf_eq_false_iff_of_decode hi).mpr h))

/-- A step on any other request answers. -/
theorem step_of_not_invalidRequest {s : State} (h : invalidRequest s.request = false) :
    ∃ R X, step s = .next (answered s R X) := by
  have hop : reservedOp s.request.op = false := Bool.eq_false_of_not_eq_true fun hreserved =>
    Bool.false_ne_true (h.symm.trans (invalidRequest_of_reserved hreserved))
  obtain ⟨i, hi, -⟩ := decode_of_not_reserved hop
  have hwf : i.wf = true := Bool.eq_true_of_not_eq_false fun hillFormed =>
    Bool.false_ne_true (h.symm.trans ((wf_eq_false_iff_of_decode hi).mp hillFormed))
  rw [step_of_decode hi]
  exact exec_of_wf hwf s

/-- Settles O6: a request under the three conditions is rejected and any other is answered with `invalid = 0`. -/
theorem invalidOperationExactly : Obligations.InvalidOperationExactly := by
  intro s
  cases h : invalidRequest s.request with
  | true => exact ⟨rejected s, step_of_invalidRequest h, rfl, iff_of_true rfl rfl, fun _ => ⟨rfl, rfl⟩⟩
  | false =>
    obtain ⟨R, X, hstep⟩ := step_of_not_invalidRequest h
    exact ⟨answered s R X, hstep, rfl, iff_of_false Bool.false_ne_true Bool.false_ne_true, fun h' => nomatch h'⟩

end Sys2Proof.Machine
end

section
/-! Encoding and decoding undo each other, up to the operand bits an operation does not read (spec/30_encoding.md R60, R63,
R64, R69). -/

namespace Sys2Proof.Machine

open Sys2Proof.Safety

/-! ### Decoding an encoded instruction -/

/-- The decoder finds the two words of ENCRAW where the encoder packs them (R64). -/
theorem decode_encode_encraw (u l : Word) : decode (encode (.encraw u l)) = .ok (.encraw u l) := by
  have hdecode : decode (encode (.encraw u l)) = .ok (.encraw (upper (encRaw u l)) (lower (encRaw u l))) := rfl
  obtain ⟨hupper, hlower⟩ := encRaw_words u l
  rw [hdecode, hupper, hlower]

/-- The decoder finds the four fields of ENCTUP where the encoder packs them (R64). -/
theorem decode_encode_enctup (sg : Bool) (e : BitVec 16) (su : BitVec 48) (sl : Word) :
    decode (encode (.enctup sg e su sl)) = .ok (.enctup sg e su sl) := by
  have hdecode : decode (encode (.enctup sg e su sl)) = .ok (.enctup
      ((0#111 ++ BitVec.ofBool sg ++ e).getLsbD 16) ((0#111 ++ BitVec.ofBool sg ++ e).extractLsb' 0 16)
      ((0#16 ++ su ++ sl).extractLsb' 64 48) ((0#16 ++ su ++ sl).extractLsb' 0 64)) := rfl
  have hsign : (0#111 ++ BitVec.ofBool sg ++ e).getLsbD 16 = sg := by
    rw [BitVec.getLsbD_append, if_neg (Nat.lt_irrefl 16), BitVec.getLsbD_append]
    simp
  rw [hdecode, hsign, BitVec.extractLsb'_append_eq_right, BitVec.extractLsb'_append_eq_right,
    BitVec.extractLsb'_append_eq_of_le le_rfl, BitVec.extractLsb'_append_eq_right]

/-- The decoder finds the three fields of XRENORM where the encoder packs them (R64). -/
theorem decode_encode_xrenorm (fmt : BitVec 2) (be : BitVec 11) (sh : BitVec 6) :
    decode (encode (.xrenorm fmt be sh)) = .ok (.xrenorm fmt be sh) := by
  have hdecode : decode (encode (.xrenorm fmt be sh)) = .ok (.xrenorm
      ((0#98 ++ sh ++ 0#5 ++ be ++ 0#6 ++ fmt).extractLsb' 0 2)
      ((0#98 ++ sh ++ 0#5 ++ be ++ 0#6 ++ fmt).extractLsb' 8 11)
      ((0#98 ++ sh ++ 0#5 ++ be ++ 0#6 ++ fmt).extractLsb' 24 6)) := rfl
  have hbe : (0#98 ++ sh ++ 0#5 ++ be ++ 0#6 ++ fmt).extractLsb' 8 11 = be := by
    rw [BitVec.extractLsb'_append_eq_of_le (by decide), BitVec.extractLsb'_append_eq_of_le (by decide)]
    exact BitVec.extractLsb'_append_eq_right
  have hsh : (0#98 ++ sh ++ 0#5 ++ be ++ 0#6 ++ fmt).extractLsb' 24 6 = sh := by
    rw [BitVec.extractLsb'_append_eq_of_le (by decide), BitVec.extractLsb'_append_eq_of_le (by decide),
      BitVec.extractLsb'_append_eq_of_le (by decide), BitVec.extractLsb'_append_eq_of_le (by decide)]
    exact BitVec.extractLsb'_append_eq_right
  rw [hdecode, hbe, hsh, BitVec.extractLsb'_append_eq_right]

/-- Settles O4, by instruction: an operand that fills its port is taken back whole, a single narrow one from the low end of
`A`, and the packed ones field by field. -/
theorem decodeEncodeRoundTrip : Obligations.DecodeEncodeRoundTrip := by
  have hlow : ∀ {k n : Nat} (make : BitVec n → Instr) (v : BitVec n),
      Except.ok (ε := DecodeError) (make ((0#k ++ v).extractLsb' 0 n)) = .ok (make v) := fun _ _ => by
    rw [BitVec.extractLsb'_append_eq_right]
  intro i
  cases i
  case encraw u l => exact decode_encode_encraw u l
  case enctup sg e su sl => exact decode_encode_enctup sg e su sl
  case xrenorm fmt be sh => exact decode_encode_xrenorm fmt be sh
  case const k => exact hlow (k := 124) .const k
  case f16toq p => exact hlow (k := 112) .f16toq p
  case f32toq p => exact hlow (k := 96) .f32toq p
  case f64toq p => exact hlow (k := 64) .f64toq p
  case i32toq n => exact hlow (k := 96) .i32toq n
  case i64toq n => exact hlow (k := 64) .i64toq n
  case u64toq n => exact hlow (k := 64) .u64toq n
  case lzc64 v => exact hlow (k := 64) .lzc64 v
  case rebias e => exact hlow (k := 112) .rebias e
  all_goals rfl

/-! ### Encoding a decoded request -/

/-- Bit `i` of a mask of `n` ones from bit `lo` up. -/
theorem ones_getLsbD (lo n i : Nat) :
    (ones lo n).getLsbD i = (decide (i < 128) && (decide (lo ≤ i) && decide (i - lo < n))) := by
  rw [ones, BitVec.getLsbD_ofNat, Nat.testBit_mul_two_pow, Nat.testBit_two_pow_sub_one]

/-- A mask of all ones keeps a port whole. -/
@[simp] theorem and_ones_all (q : Quad) : q &&& ones 0 128 = q := by
  have hones : ones 0 128 = BitVec.allOnes 128 := by decide
  rw [hones, BitVec.and_allOnes]

/-- A mask of low ones keeps the low field of a port over zeros. -/
theorem zero_append_extract_eq_and_ones {k n : Nat} (h : k + n = 128) (q : Quad) :
    (0#k ++ q.extractLsb' 0 n).cast h = q &&& ones 0 n := by
  refine BitVec.eq_of_getLsbD_eq fun i hi => ?_
  simp only [BitVec.getLsbD_cast, BitVec.getLsbD_append, BitVec.getLsbD_zero, BitVec.getLsbD_extractLsb',
    BitVec.getLsbD_and, ones_getLsbD]
  grind

/-- ENCTUP reads the low 112 bits of `A` (R64). -/
theorem pack_enctup_A (A : Quad) :
    0#16 ++ A.extractLsb' 64 48 ++ A.extractLsb' 0 64 = A &&& (ones 64 48 ||| ones 0 64) := by
  refine BitVec.eq_of_getLsbD_eq fun i hi => ?_
  simp only [BitVec.getLsbD_append, BitVec.getLsbD_zero, BitVec.getLsbD_extractLsb', BitVec.getLsbD_and,
    BitVec.getLsbD_or, ones_getLsbD]
  grind

/-- ENCTUP reads the low 17 bits of `B` (R64). -/
theorem pack_enctup_B (B : Quad) :
    0#111 ++ BitVec.ofBool (B.getLsbD 16) ++ B.extractLsb' 0 16 = B &&& ones 0 17 := by
  refine BitVec.eq_of_getLsbD_eq fun i hi => ?_
  simp only [BitVec.getLsbD_append, BitVec.getLsbD_zero, BitVec.getLsbD_extractLsb', BitVec.getLsbD_and,
    BitVec.getLsbD_ofBool, ones_getLsbD]
  grind

/-- XRENORM reads three fields of `A` (R64). -/
theorem pack_xrenorm (A : Quad) :
    0#98 ++ A.extractLsb' 24 6 ++ 0#5 ++ A.extractLsb' 8 11 ++ 0#6 ++ A.extractLsb' 0 2
      = A &&& (ones 0 2 ||| ones 8 11 ||| ones 24 6) := by
  refine BitVec.eq_of_getLsbD_eq fun i hi => ?_
  simp only [BitVec.getLsbD_append, BitVec.getLsbD_zero, BitVec.getLsbD_extractLsb', BitVec.getLsbD_and,
    BitVec.getLsbD_or, ones_getLsbD]
  grind

/-- Encoding what a row takes from `A` and `B` gives the bits the row's code reads, over zeros. -/
theorem encode_operands {row : OpRow} (h : row ∈ opRows) (A B : Quad) :
    encode (row.operands A B) = ⟨row.code, A &&& readsA row.code, B &&& readsB row.code⟩ := by
  have hencraw : A.extractLsb' 64 64 ++ A.extractLsb' 0 64 = A := encRaw_upper_lower A
  have hlow4 : 0#124 ++ A.extractLsb' 0 4 = A &&& ones 0 4 := zero_append_extract_eq_and_ones rfl A
  have hlow16 : 0#112 ++ A.extractLsb' 0 16 = A &&& ones 0 16 := zero_append_extract_eq_and_ones rfl A
  have hlow32 : 0#96 ++ A.extractLsb' 0 32 = A &&& ones 0 32 := zero_append_extract_eq_and_ones rfl A
  have hlow64 : 0#64 ++ A.extractLsb' 0 64 = A &&& ones 0 64 := zero_append_extract_eq_and_ones rfl A
  revert row
  simp only [opRows, encoderRows, decoderRows, classifierRows, comparatorRows, importerRows, helperRows,
    List.forall_mem_append, List.forall_mem_cons]
  simp [encode, readsA, readsB, reservedOp, -BitVec.getLsbD_eq_getElem, hencraw, hlow4, hlow16, hlow32, hlow64,
    pack_enctup_A, pack_enctup_B, pack_xrenorm]

/-- A request that decodes has a row of the map, and decodes to what the row takes from its operands. -/
theorem row_of_decode {r : Request} {i : Instr} (h : decode r = .ok i) :
    ∃ row ∈ opRows, row.code = r.op ∧ row.operands r.A r.B = i := by
  cases hrow : rowOf r.op with
  | none =>
    rw [decode_of_no_row hrow] at h
    cases h
  | some row =>
    obtain ⟨hmem, hcode⟩ := rowOf_code hrow
    exact ⟨row, hmem, hcode, Except.ok.inj ((decode_of_row hrow).symm.trans h)⟩

/-- Encoding a decoded request clears the bits its code does not read (R69). -/
theorem encode_of_decode {r : Request} {i : Instr} (h : decode r = .ok i) :
    encode i = ⟨r.op, r.A &&& readsA r.op, r.B &&& readsB r.op⟩ := by
  obtain ⟨row, hmem, hcode, rfl⟩ := row_of_decode h
  rw [encode_operands hmem, hcode]

/-- The three ports are taken back from the 264-bit word they make (R60). -/
theorem ofWord_toWord (r : Request) : Request.ofWord r.toWord = r := by
  have hop : r.toWord.extractLsb' 256 8 = r.op := by
    rw [Request.toWord, BitVec.extractLsb'_append_eq_of_le (by decide), BitVec.extractLsb'_append_eq_left]
  have hA : r.toWord.extractLsb' 128 128 = r.A := by
    rw [Request.toWord, BitVec.extractLsb'_append_eq_of_le le_rfl, BitVec.extractLsb'_append_eq_right]
  have hB : r.toWord.extractLsb' 0 128 = r.B := BitVec.extractLsb'_append_eq_right
  rw [Request.ofWord, hop, hA, hB]

/-- The three ports of a 264-bit word make the word (R60). -/
theorem toWord_ofWord (w : BitVec 264) : (Request.ofWord w).toWord = w := by
  have hports : w.extractLsb' 256 8 ++ w.extractLsb' 128 128 ++ w.extractLsb' 0 128 = w := by
    rw [BitVec.extractLsb'_append_extractLsb'_eq_extractLsb' (show 256 = 128 + 128 from rfl)]
    exact (BitVec.extractLsb'_append_extractLsb'_eq_extractLsb' rfl).trans BitVec.extractLsb'_eq_self
  exact hports

/-- Settles O5, from the row the request decodes by and the ports of the word. -/
theorem encodeDecodeClearsIgnoredBits : Obligations.EncodeDecodeClearsIgnoredBits :=
  ⟨fun _ _ => encode_of_decode, ofWord_toWord, toWord_ofWord⟩

/-- Settles O3: each word is decoded by computation. -/
theorem sampleWordsDecode : Obligations.SampleWordsDecode := by
  refine ⟨?_, ?_, ?_, ?_, ?_, ?_, ?_⟩
  all_goals rfl

end Sys2Proof.Machine
end

section
/-! The whole machine: a step is `eval` of the request on the input ports (spec/10_state.md R20, R26, R32). -/

namespace Sys2Proof.Machine

open Sys2Proof.Safety

/-! ### A step -/

/-- Settles O1. -/
theorem stepRunsDecodedInstruction : Obligations.StepRunsDecodedInstruction := fun _ _ h => step_of_decode h

/-- Settles O16: ENCRAW of 0 is 0. -/
theorem resetIsSettled : Obligations.ResetIsSettled := rfl

/-- A step puts `eval` of its inputs on the outputs, and only that. -/
theorem step_eq_next_iff (s t : State) : step s = .next t ↔ s.withResponse (eval s.request) = t := by
  rw [step_eq_eval, Host.Outcome.next.injEq]

/-- Settles O17: the step writes `eval` of inputs it does not touch, so it writes what already stands there in a settled
state. -/
theorem everyStepSettles : Obligations.EveryStepSettles := by
  refine ⟨fun s t h => ?_, fun s hs => ?_⟩
  · obtain rfl := (step_eq_next_iff s t).mp h
    exact State.withResponse_response s _
  · rw [step_eq_next_iff, ← hs, State.withResponse_self]

/-- Settles O8: both steps answer `eval` of the one request. -/
theorem responseDependsOnRequestOnly : Obligations.ResponseDependsOnRequestOnly := by
  intro s s' h
  refine ⟨_, _, step_eq_eval s, step_eq_eval s', ?_, State.withResponse_response s _⟩
  rw [State.withResponse_response, State.withResponse_response, h]

/-- Settles O15: a state after a step is settled, and a settled state is left as it is. -/
theorem repeatingARequestChangesNothing : Obligations.RepeatingARequestChangesNothing := by
  obtain ⟨hsettles, hfixed⟩ := everyStepSettles
  exact fun s t h => hfixed t (hsettles s t h)

/-! ### Runs -/

/-- A host that stops leaves the answers as they are. -/
theorem runHost_of_none {host : List Answer → Option Request} {past : List Answer} (h : host past = none) (n : Nat)
    (s : State) : runHost host n s past = past := by
  cases n with
  | zero => rfl
  | succ n => rw [runHost, h]

/-- A host that asks goes on with the answer `eval` gives, from the state the step leaves. -/
theorem runHost_of_some {host : List Answer → Option Request} {past : List Answer} {r : Request}
    (h : host past = some r) (n : Nat) (s : State) :
    runHost host (n + 1) s past =
      runHost host n ((s.present r).withResponse (eval r)) (past ++ [answerOf (eval r)]) := by
  have hstep : step (s.present r) = .next ((s.present r).withResponse (eval r)) := step_eq_eval (s.present r)
  simp only [runHost, h, hstep, State.withResponse_response]

/-- Settles O13, by induction on the number of requests, for all answers so far and both start states at once. -/
theorem hostCannotSeeHistory : Obligations.HostCannotSeeHistory := by
  intro host n
  induction n with
  | zero => exact fun _ _ _ => rfl
  | succ n ih =>
    intro s s' past
    cases h : host past with
    | none => rw [runHost_of_none h, runHost_of_none h]
    | some r =>
      rw [runHost_of_some h, runHost_of_some h]
      exact ih _ _ _

/-- A run pairs each request with its own response. -/
theorem zip_runRequests (s : State) (rs : List Request) : rs.zip (runRequests s rs) = rs.map fun r => (r, eval r) := by
  rw [programRunIsListOfResponses, List.map_prod_left_eq_zip]

/-- Settles O14: pairing a request with its own response does not look at the order. -/
theorem requestsMayBeReordered : Obligations.RequestsMayBeReordered := by
  intro s s' rs rs' h
  rw [zip_runRequests, zip_runRequests]
  exact h.map _

/-! ### Instructions -/

/-- `eval` of an encoded instruction is the response of its meaning. -/
theorem eval_encode_of_exec {i : Instr} {t : State} (h : exec i (State.reset.present (encode i)) = .next t) :
    eval (encode i) = t.response :=
  eval_of_step ((step_of_decode (s := State.reset.present (encode i)) (decodeEncodeRoundTrip i)).trans h)

/-- A well-formed instruction is answered with a result. -/
theorem answered_encode_of_wf {i : Instr} (hi : i.wf = true) : Answered (encode i) := by
  obtain ⟨R, X, hexec⟩ := exec_of_wf hi (State.reset.present (encode i))
  rw [Answered, eval_encode_of_exec hexec]
  rfl

/-- Settles O18, request by request: a run is the list of the responses, and each is a result. -/
theorem wellFormedProgramsAreSafe : Obligations.WellFormedProgramsAreSafe := by
  intro is hwf
  have hsafe : SafeRun (is.map encode) := by
    intro r hr
    obtain ⟨i, hi, rfl⟩ := List.mem_map.mp hr
    exact answered_encode_of_wf (hwf i hi)
  refine ⟨hsafe, fun s p hp => ?_⟩
  rw [programRunIsListOfResponses] at hp
  obtain ⟨r, hr, rfl⟩ := List.mem_map.mp hp
  have hvalid : (eval r).invalid = false := hsafe r hr
  exact ⟨(eval r).R, (eval r).X, by rw [answerOf, hvalid, if_neg Bool.false_ne_true]⟩

/-- Every instruction but DEC drives `R` alone, or is rejected (R64, R108). -/
theorem exec_of_ne_dec {i : Instr} (h : ∀ q, i ≠ .dec q) (s : State) :
    exec i s = .next (rejected s) ∨ ∃ R, exec i s = .next (answered s R 0#32) := by
  cases i
  case dec q => exact absurd rfl (h q)
  case const k =>
    cases hk : constantAt k with
    | none => exact .inl (by simp only [exec, execConst, hk, takeInvalidOperation_eq])
    | some q => exact .inr ⟨q, exec_const_of_entry hk s⟩
  case xrenorm fmt be sh =>
    cases hf : formatOf fmt with
    | none => exact .inl (by simp only [exec, execXrenorm, hf, takeInvalidOperation_eq])
    | some f => exact .inr ⟨_, exec_xrenorm_of_format hf be sh s⟩
  all_goals exact .inr ⟨_, rfl⟩

/-- Settles O9: a response changes no input, and the response of every instruction but DEC has 0 on `X`. -/
theorem everyInstructionCompletesAndKeepsInputs : Obligations.EveryInstructionCompletesAndKeepsInputs := by
  intro i s
  obtain ⟨p, hp⟩ := exec_answers i
  refine ⟨s.withResponse p, hp s, rfl, rfl, rfl, fun hdec => ?_⟩
  obtain h | ⟨R, h⟩ := exec_of_ne_dec hdec s
  all_goals
    rw [Host.Outcome.next.inj ((hp s).symm.trans h)]
    rfl

/-! ### Bits that are not read, bits that are not driven -/

/-- Settles O10: requests that agree on the bits read decode to instructions of one encoding, hence to one instruction. -/
theorem ignoredOperandBitsHaveNoInfluence : Obligations.IgnoredOperandBitsHaveNoInfluence := by
  intro s s' hop hA hB
  cases hreserved : reservedOp s.op with
  | true =>
    obtain ⟨hrejected, -, -⟩ := reservedCodesRaiseInvalidOperation
    exact ⟨_, _, (hrejected s hreserved).2, (hrejected s' (hop ▸ hreserved)).2, rfl⟩
  | false =>
    have hreserved' : reservedOp s'.op = false := hop ▸ hreserved
    obtain ⟨i, hi, -⟩ := decode_of_not_reserved (r := s.request) hreserved
    obtain ⟨i', hi', -⟩ := decode_of_not_reserved (r := s'.request) hreserved'
    have hencode : encode i = encode i' := by
      rw [encode_of_decode hi, encode_of_decode hi']
      simp only [State.request_op, State.request_A, State.request_B, ← hop, hA, hB]
    obtain rfl : i = i' := Except.ok.inj (ε := DecodeError) <| by
      rw [← decodeEncodeRoundTrip i, hencode, decodeEncodeRoundTrip i']
    obtain ⟨p, hp⟩ := exec_answers i
    exact ⟨_, _, (step_of_decode hi).trans (hp s), (step_of_decode hi').trans (hp s'), rfl⟩

/-- No bit of a narrow result stands above its width. -/
theorem onLow_and_not_ones {n : Nat} (v : BitVec n) : onLow v &&& ~~~(ones 0 n) = 0#128 := by
  refine BitVec.eq_of_getLsbD_eq fun i hi => ?_
  simp only [onLow, BitVec.getLsbD_and, BitVec.getLsbD_setWidth, BitVec.getLsbD_not, ones_getLsbD, BitVec.getLsbD_zero]
  rcases Nat.lt_or_ge i n with h | h
  · simp [hi, h]
  · simp [BitVec.getLsbD_of_ge v i h]

/-- No bit of a truth stands above `R[0]`. -/
theorem onBit0_and_not_ones (b : Bool) : onBit0 b &&& ~~~(ones 0 1) = 0#128 := by
  cases b <;> decide

/-- No bit stands outside the 128 of the port. -/
theorem and_not_ones_all (q : Quad) : q &&& ~~~(ones 0 128) = 0#128 := by
  have hones : ~~~(ones 0 128) = 0#128 := by decide
  rw [hones, BitVec.and_zero]

/-- The outputs of an outcome hold 0 at the bits a code does not drive (R64). -/
def UndrivenZero (op : OpCode) (o : Host.Outcome State Fault Refusal) : Prop :=
  ∃ t, o = .next t ∧ t.R &&& ~~~(drivesR op) = 0#128 ∧ t.X &&& ~~~(drivesX op) = 0#32

/-- An answer on `R` alone, from the bits of `R` that its code drives. -/
theorem undrivenZero_answerR {op : OpCode} {m q : Quad} (hm : drivesR op = m) (hq : q &&& ~~~m = 0#128) (s : State) :
    UndrivenZero op (answerR s q) :=
  ⟨_, answerR_eq s q, hm ▸ hq, BitVec.zero_and⟩

/-- The rejected response holds 0 at every bit. -/
theorem undrivenZero_rejected (op : OpCode) (s : State) : UndrivenZero op (.next (rejected s)) :=
  ⟨_, rfl, BitVec.zero_and, BitVec.zero_and⟩

/-- Every instruction leaves 0 at the bits its code does not drive, by the width of its result (R64). -/
theorem exec_undrivenZero (i : Instr) (s : State) : UndrivenZero (encode i).op (exec i s) := by
  cases i
  case const k =>
    cases hk : constantAt k with
    | none =>
      simp only [exec, execConst, hk]
      exact undrivenZero_rejected _ s
    | some q =>
      simp only [exec, execConst, hk]
      exact undrivenZero_answerR (m := ones 0 128) rfl (and_not_ones_all q) s
  case xrenorm fmt be sh =>
    cases hf : formatOf fmt with
    | none =>
      simp only [exec, execXrenorm, hf]
      exact undrivenZero_rejected _ s
    | some f =>
      simp only [exec, execXrenorm, hf]
      exact undrivenZero_answerR (m := ones 0 _) rfl (onLow_and_not_ones _) s
  case dec q =>
    have hX : decX q &&& ~~~(drivesX 0x10#8) = 0#32 := BitVec.and_zero
    exact ⟨_, exec_dec s q, onLow_and_not_ones _, hX⟩
  case classify | cmp | hash | lzc64 | rebias => exact undrivenZero_answerR (m := ones 0 _) rfl (onLow_and_not_ones _) s
  case iszero | isfinite | isinf | ispinf | isninf | isnan | isneg | isnormal | issubn =>
    exact undrivenZero_answerR (m := ones 0 1) rfl (onBit0_and_not_ones _) s
  case eq | ne | lt | le | gt | ge | equals => exact undrivenZero_answerR (m := ones 0 1) rfl (onBit0_and_not_ones _) s
  case encraw | enctup | canon => exact undrivenZero_answerR (m := ones 0 128) rfl (and_not_ones_all _) s
  case f16toq | f32toq | f64toq | i32toq | i64toq | u64toq =>
    exact undrivenZero_answerR (m := ones 0 128) rfl (and_not_ones_all _) s

/-- Settles O11: a reserved code is rejected, any other is the code of the instruction it decodes to. -/
theorem undrivenResultBitsAreZero : Obligations.UndrivenResultBitsAreZero := by
  intro s
  cases hreserved : reservedOp s.op with
  | true =>
    obtain ⟨hrejected, -, -⟩ := reservedCodesRaiseInvalidOperation
    rw [(hrejected s hreserved).2]
    exact undrivenZero_rejected s.op s
  | false =>
    obtain ⟨i, hi, hop⟩ := decode_of_not_reserved (r := s.request) hreserved
    have hzero := exec_undrivenZero i s
    rwa [hop, ← step_of_decode hi] at hzero

end Sys2Proof.Machine
end

section
/-! Constructing a value and taking it apart undo each other (spec/40_codec.md R103, R107). -/

namespace Sys2Proof.Machine

open Sys2Proof.Safety

/-! ### The exponent of a tuple construction -/

/-- Re-biasing keeps two exponents apart exactly when their low 15 bits differ (R103). -/
theorem rebias_eq_rebias_iff (e e' : BitVec 16) : rebias e = rebias e' ↔ e.extractLsb' 0 15 = e'.extractLsb' 0 15 := by
  have hlow (e : BitVec 16) : ((e.extractLsb' 0 15).toNat : Int) = e.toInt % 2 ^ 15 := by
    rw [BitVec.extractLsb'_toNat, Nat.shiftRight_zero, BitVec.toInt_eq_toNat_cond]
    split <;> omega
  have hrebias := rebias_toNat e
  have hrebias' := rebias_toNat e'
  have hlow1 := hlow e
  have hlow2 := hlow e'
  rw [← BitVec.toNat_inj, ← BitVec.toNat_inj]
  omega

/-- The exponent field of a tuple construction is the re-biased exponent (R102). -/
theorem expField_encTuple (sg : Bool) (e : BitVec 16) (su : BitVec 48) (sl : Word) :
    (expField (encTuple sg e su sl) : Int) = (e.toInt + 16383) % 2 ^ 15 := by
  obtain ⟨-, hbexp, -, -⟩ := encTuple_fields sg e su sl
  rw [← bexp_toNat, hbexp, rebias_toNat]

/-- Two tuple constructions that differ in the exponent alone are equal exactly when the re-biased exponents are. -/
theorem encTuple_eq_iff (sg : Bool) (e e' : BitVec 16) (su : BitVec 48) (sl : Word) :
    encTuple sg e su sl = encTuple sg e' su sl ↔ rebias e = rebias e' := by
  refine ⟨fun h => ?_, fun h => by rw [encTuple, h, encTuple]⟩
  obtain ⟨-, hbexp, -, -⟩ := encTuple_fields sg e su sl
  obtain ⟨-, hbexp', -, -⟩ := encTuple_fields sg e' su sl
  rw [← hbexp, h, hbexp']

/-- Two answers are one when their results are. -/
theorem next_answered_inj {s : State} {q q' : Quad} {x : BitVec 32} :
    (Host.Outcome.next (answered s q x) : Host.Outcome State Fault Refusal) = .next (answered s q' x) ↔ q = q' :=
  ⟨fun h => (answered_inj (Host.Outcome.next.inj h)).1, fun h => by rw [h]⟩

/-- Settles O21: the sum of R102 modulo `2^15`, which is the sum itself in range, and the low bits that determine it. -/
theorem enctupExponentWraps : Obligations.EnctupExponentWraps := by
  intro s sg e e' su sl
  have hfield := expField_encTuple sg e su sl
  refine ⟨⟨_, exec_enctup s sg e su sl, hfield, fun hlow hhigh => ?_⟩, ?_⟩
  · rw [hfield, Int.emod_eq_of_lt (by omega) (by omega)]
  · rw [exec_enctup, exec_enctup, next_answered_inj, encTuple_eq_iff, rebias_eq_rebias_iff]

/-! ### DEC and ENCTUP -/

/-- Re-biasing undoes un-biasing (R107 (a)). -/
theorem rebias_unbias (field : BitVec 15) : rebias (unbias field) = field := by
  have hrebias := rebias_toNat (unbias field)
  rw [unbias_toInt] at hrebias
  apply BitVec.eq_of_toNat_eq
  omega

/-- Un-biasing undoes re-biasing up to the wrap (R107 (b)). -/
theorem unbias_rebias_toInt (e : BitVec 16) : (unbias (rebias e)).toInt = (e.toInt + 16383) % 2 ^ 15 - 16383 := by
  rw [unbias_toInt, rebias_toNat]

/-- The four parts of a value make the value. -/
theorem encTuple_parts (q : Quad) : encTuple (sign q) (unbias (bexp q)) (sigu q) (sigl q) = q := by
  rw [encTuple, rebias_unbias, ofBool_sign_append_bexp]
  have hupper : q.extractLsb' 112 16 ++ sigu q = q.extractLsb' 64 64 :=
    BitVec.extractLsb'_append_extractLsb'_eq_extractLsb' rfl
  exact (congrArg (· ++ sigl q) hupper).trans (encRaw_upper_lower q)

/-- The upper part of the significand is read back from DEC's `R`. -/
theorem onLow_sig_extractLsb'_64_48 (q : Quad) : (onLow (sig q)).extractLsb' 64 48 = sigu q := by
  refine BitVec.eq_of_getLsbD_eq fun i hi => ?_
  simp only [onLow, sig, sigu, BitVec.getLsbD_extractLsb', BitVec.getLsbD_setWidth]
  grind

/-- The lower part of the significand is read back from DEC's `R`. -/
theorem onLow_sig_extractLsb'_0_64 (q : Quad) : (onLow (sig q)).extractLsb' 0 64 = sigl q := by
  refine BitVec.eq_of_getLsbD_eq fun i hi => ?_
  simp only [onLow, sig, sigl, BitVec.getLsbD_extractLsb', BitVec.getLsbD_setWidth]
  grind

/-- Settles O25: the parts DEC answers are those ENCTUP places, up to the wrap of the exponent. -/
theorem decEnctupRoundTrips : Obligations.DecEnctupRoundTrips := by
  refine ⟨fun s s' q => ?_, fun s s' sg e su sl => ?_, fun s q => ?_⟩
  · refine ⟨_, _, exec_dec s q, ?_⟩
    rw [decX_getLsbD_15, decX_extractLsb'_16_16, onLow_sig_extractLsb'_64_48, onLow_sig_extractLsb'_0_64, exec_enctup,
      encTuple_parts]
  · obtain ⟨hsign, hbexp, hsigu, hsigl⟩ := encTuple_fields sg e su sl
    have hint := unbias_rebias_toInt e
    refine ⟨_, _, _, exec_enctup s sg e su sl, exec_dec s' _, ?_⟩
    rw [decX_getLsbD_15, decX_extractLsb'_16_16, onLow_sig_extractLsb'_64_48, onLow_sig_extractLsb'_0_64, hbexp]
    refine ⟨hsign, hsigu, hsigl, fun hlow hhigh => BitVec.eq_of_toInt_eq ?_, ?_, ?_, ?_⟩
    all_goals omega
  · have hwords : q.extractLsb' 64 64 ++ q.extractLsb' 0 64 = q := encRaw_upper_lower q
    rw [exec_encraw, hwords]

end Sys2Proof.Machine
end

section
/-! CLASS and the partition of the patterns (spec/41_classifier.md R140, R141). -/

namespace Sys2Proof.Machine

open Sys2Proof.Safety

/-! ### The truth each predicate answers on `R[0]` -/

section

variable (s : State) (q : Quad)

@[simp] theorem yes_exec_iszero : yes (exec (.iszero q) s) = isZero q := onBit0_getLsbD_zero _
@[simp] theorem yes_exec_isfinite : yes (exec (.isfinite q) s) = isFinite q := onBit0_getLsbD_zero _
@[simp] theorem yes_exec_isinf : yes (exec (.isinf q) s) = isInfinity q := onBit0_getLsbD_zero _
@[simp] theorem yes_exec_ispinf : yes (exec (.ispinf q) s) = isPositiveInfinity q := onBit0_getLsbD_zero _
@[simp] theorem yes_exec_isninf : yes (exec (.isninf q) s) = isNegativeInfinity q := onBit0_getLsbD_zero _
@[simp] theorem yes_exec_isnan : yes (exec (.isnan q) s) = isNaN q := onBit0_getLsbD_zero _
@[simp] theorem yes_exec_isneg : yes (exec (.isneg q) s) = isNegative q := onBit0_getLsbD_zero _
@[simp] theorem yes_exec_isnormal : yes (exec (.isnormal q) s) = isNormal q := onBit0_getLsbD_zero _
@[simp] theorem yes_exec_issubn : yes (exec (.issubn q) s) = isSubnormal q := onBit0_getLsbD_zero _

end

/-! ### CLASS -/

/-- CLASS answers the nine bits (R140). -/
theorem exec_classify (s : State) (q : Quad) :
    exec (.classify q) s = .next (answered s (onLow (classBits q)) 0#32) := rfl

/-- A narrow result keeps its bits on `R`. -/
theorem onLow_getLsbD {n i : Nat} (hi : i < 128) (v : BitVec n) : (onLow v).getLsbD i = v.getLsbD i := by
  simp only [onLow, BitVec.getLsbD_setWidth, hi, decide_true, Bool.true_and]

/-- The bits of CLASS from bit 0 up (R140). -/
theorem classBits_getLsbD (q : Quad) :
    (classBits q).getLsbD 0 = isZero q ∧ (classBits q).getLsbD 1 = isFinite q ∧
    (classBits q).getLsbD 2 = isInfinity q ∧ (classBits q).getLsbD 3 = isPositiveInfinity q ∧
    (classBits q).getLsbD 4 = isNegativeInfinity q ∧ (classBits q).getLsbD 5 = isNaN q ∧
    (classBits q).getLsbD 6 = isNegative q ∧ (classBits q).getLsbD 7 = isNormal q ∧
    (classBits q).getLsbD 8 = isSubnormal q := by
  simp only [classBits, BitVec.getLsbD_append]
  simp

/-- Settles O27, bit by bit. -/
theorem classPacksTheNinePredicates : Obligations.ClassPacksTheNinePredicates := by
  intro s q
  have hwidth : (onLow (classBits q)).toNat < 2 ^ 9 := by
    rw [onLow, BitVec.toNat_setWidth_of_le (by decide)]
    exact (classBits q).isLt
  obtain ⟨h0, h1, h2, h3, h4, h5, h6, h7, h8⟩ := classBits_getLsbD q
  refine ⟨_, exec_classify s q, ?_⟩
  refine ⟨?_, ?_, ?_, ?_, ?_, ?_, ?_, ?_, ?_, hwidth⟩
  all_goals simp [onLow_getLsbD, -BitVec.getLsbD_eq_getElem, h0, h1, h2, h3, h4, h5, h6, h7, h8]

/-! ### The partition -/

/-- The exponent field is not both the smallest and the largest. -/
theorem expIsMax_of_expIsZero {q : Quad} (h : expIsZero q = true) : expIsMax q = false := by
  rw [expIsZero_eq_decide, decide_eq_true_iff] at h
  rw [expIsMax_eq_decide, h]
  rfl

/-- The exponent field is the smallest, the largest, or neither. -/
theorem expIsZero_expIsMax_cases (q : Quad) :
    (expIsZero q = true ∧ expIsMax q = false) ∨ (expIsZero q = false ∧ expIsMax q = true) ∨
    (expIsZero q = false ∧ expIsMax q = false) := by
  cases hzero : expIsZero q with
  | true => exact .inl ⟨rfl, expIsMax_of_expIsZero hzero⟩
  | false => cases expIsMax q <;> simp

/-- The classes by exponent field and significand: one of the five holds of every pattern (R141). -/
theorem exactly_one_class (q : Quad) :
    [isNaN q, isInfinity q, isZero q, isNormal q, isSubnormal q].count true = 1 := by
  obtain ⟨hz, hm⟩ | ⟨hz, hm⟩ | ⟨hz, hm⟩ := expIsZero_expIsMax_cases q <;> cases hs : sigIsZero q <;>
    simp [isNaN, isInfinity, isZero, isNormal, isSubnormal, hz, hm, hs]

/-- The finite patterns are the zeros, the subnormals and the normals (R141). -/
theorem isFinite_eq_or (q : Quad) : isFinite q = (isZero q || isSubnormal q || isNormal q) := by
  obtain ⟨hz, hm⟩ | ⟨hz, hm⟩ | ⟨hz, hm⟩ := expIsZero_expIsMax_cases q <;> cases hs : sigIsZero q <;>
    simp [isFinite, isZero, isNormal, isSubnormal, hz, hm, hs]

/-- The values of CLASS: five classes, each with the sign clear and set (R140). -/
theorem classBits_mem (q : Quad) :
    (classBits q).toNat ∈ [0x003, 0x043, 0x102, 0x142, 0x082, 0x0C2, 0x00C, 0x054, 0x020, 0x060] := by
  obtain ⟨hz, hm⟩ | ⟨hz, hm⟩ | ⟨hz, hm⟩ := expIsZero_expIsMax_cases q <;> cases hs : sigIsZero q <;>
    cases hn : sign q <;>
    simp [classBits, isZero, isFinite, isInfinity, isPositiveInfinity, isNegativeInfinity, isNaN, isNegative, isNormal,
      isSubnormal, hz, hm, hs, hn]

/-- A pattern of each class and sign, in the order of the values of CLASS above. -/
def classRepresentatives : List Quad :=
  [0#128, 1#128 <<< 127, 1#128, 1#128 <<< 127 ||| 1#128, 1#128 <<< 112, 1#128 <<< 127 ||| 1#128 <<< 112,
    0x7FFF#128 <<< 112, 0xFFFF#128 <<< 112, 0x7FFF#128 <<< 112 ||| 1#128, 0xFFFF#128 <<< 112 ||| 1#128]

/-- Each of the ten values is that of a pattern. -/
theorem classRepresentatives_classBits : classRepresentatives.map (fun q => (classBits q).toNat) =
    [0x003, 0x043, 0x102, 0x142, 0x082, 0x0C2, 0x00C, 0x054, 0x020, 0x060] := by
  decide

/-- Settles O28: the classes follow from the exponent field, the significand and the sign, and each value of CLASS has a
pattern. -/
theorem classesPartitionThePatterns : Obligations.ClassesPartitionThePatterns := by
  refine ⟨fun s q => ?_, fun s r => ⟨?_, fun hr => ?_⟩⟩
  · simp only [yes_exec_isnan, yes_exec_isinf, yes_exec_iszero, yes_exec_isnormal, yes_exec_issubn, yes_exec_isfinite,
      yes_exec_ispinf, yes_exec_isninf, yes_exec_isneg]
    exact ⟨exactly_one_class q, isFinite_eq_or q, rfl, rfl⟩
  · rintro ⟨q, hq⟩
    rw [exec_classify, next_answered_inj] at hq
    rw [← hq, onLow, BitVec.toNat_setWidth_of_le (by decide)]
    exact classBits_mem q
  · rw [← classRepresentatives_classBits] at hr
    obtain ⟨q, -, hq⟩ := List.mem_map.mp hr
    refine ⟨q, ?_⟩
    rw [exec_classify, onLow_eq_ofNat, hq, BitVec.ofNat_toNat, BitVec.setWidth_eq]

end Sys2Proof.Machine
end

section
/-! The comparison operations as orders (spec/42_comparator.md R154 to R162; spec/10_state.md R31). -/

namespace Sys2Proof.Machine

open Sys2Proof.Safety

/-! ### The relational operators -/

/-- `<` is the order of the signed magnitudes, and false with a NaN (R154, R155). -/
theorem ltQ_eq_true_iff (a b : Quad) : ltQ a b = true ↔ ¬ NanPattern a ∧ ¬ NanPattern b ∧ key a < key b := by
  by_cases hnan : NanPattern a ∨ NanPattern b
  · rw [ltQ_of_nan hnan]
    exact iff_of_false Bool.false_ne_true fun ⟨ha, hb, _⟩ => hnan.elim ha hb
  · obtain ⟨ha, hb⟩ := not_or.mp hnan
    simp only [ltQ_of_not_nan ha hb, ha, hb, not_false_eq_true, true_and]

/-- `<=` is the order of the signed magnitudes, and false with a NaN (R154, R156). -/
theorem leQ_eq_true_iff (a b : Quad) : leQ a b = true ↔ ¬ NanPattern a ∧ ¬ NanPattern b ∧ key a ≤ key b := by
  by_cases hnan : NanPattern a ∨ NanPattern b
  · rw [leQ_of_nan hnan]
    exact iff_of_false Bool.false_ne_true fun ⟨ha, hb, _⟩ => hnan.elim ha hb
  · obtain ⟨ha, hb⟩ := not_or.mp hnan
    simp only [leQ_of_not_nan ha hb, ha, hb, not_false_eq_true, true_and]

/-- `<=` is `<` or `==` (R156). -/
theorem leQ_eq_ltQ_or_eqQ (a b : Quad) : leQ a b = (ltQ a b || eqQ a b) := by
  by_cases hnan : NanPattern a ∨ NanPattern b
  · rw [leQ_of_nan hnan, ltQ_of_nan hnan, eqQ_of_nan hnan, Bool.or_self]
  · obtain ⟨ha, hb⟩ := not_or.mp hnan
    rw [Bool.eq_iff_iff, Bool.or_eq_true, leQ_of_not_nan ha hb, ltQ_of_not_nan ha hb, eqQ_of_not_nan ha hb]
    exact Int.le_iff_lt_or_eq

/-- `==` does not look at the order of its operands (R152). -/
theorem eqQ_comm (a b : Quad) : eqQ a b = eqQ b a := by
  rw [Bool.eq_iff_iff, eqQ_eq_true_iff, eqQ_eq_true_iff]
  grind

/-- Settles O31: GT and GE are LT and LE with the operands exchanged. -/
theorem relationalOperatorsAreTheSignedMagnitudeOrder : Obligations.RelationalOperatorsAreTheSignedMagnitudeOrder := by
  intro s a b
  refine ⟨answerR_onBit0 (ltQ_eq_true_iff a b) s, answerR_onBit0 (leQ_eq_true_iff a b) s,
    answerR_onBit0 ?gt s, answerR_onBit0 ?ge s, ?_, ?_⟩
  case gt => rw [ltQ_eq_true_iff, and_left_comm]
  case ge => rw [leQ_eq_true_iff, and_left_comm]
  · rw [yes_exec_le, yes_exec_lt, yes_exec_eq, leQ_eq_ltQ_or_eqQ]
  · rw [yes_exec_ge, yes_exec_gt, yes_exec_eq, leQ_eq_ltQ_or_eqQ, eqQ_comm]

/-! ### The constants that bound the finite values -/

/-- A finite pattern is no NaN pattern. -/
theorem not_nanPattern_of_finite {q : Quad} (h : expField q ≠ 0x7FFF) : ¬ NanPattern q := fun hnan => h hnan.1

/-- The signed magnitude of a finite pattern stays below that of the infinities. -/
theorem key_bounds_of_finite {q : Quad} (h : expField q ≠ 0x7FFF) :
    -(0x7FFF * 2 ^ 112) < key q ∧ key q < 0x7FFF * 2 ^ 112 := by
  have hlt := q.isLt
  rw [expField] at h
  rw [key]
  split <;> omega

/-- Settles O23, from the signed magnitudes of the constants; the suggested patterns are computed. -/
theorem constantsBoundTheFiniteValues : Obligations.ConstantsBoundTheFiniteValues := by
  intro s q
  simp only [yes_exec_lt, yes_exec_isnormal]
  refine ⟨fun hfinite => ?_, fun hpos => ?_, by decide, ?_⟩
  · have hmax : key 0x7FFEFFFFFFFFFFFFFFFFFFFFFFFFFFFF#128 = 0x7FFF * 2 ^ 112 - 1 := by decide
    have hmin : key 0xFFFEFFFFFFFFFFFFFFFFFFFFFFFFFFFF#128 = -(0x7FFF * 2 ^ 112 - 1) := by decide
    obtain ⟨hlow, hhigh⟩ := key_bounds_of_finite hfinite
    rw [← Bool.not_eq_true, ← Bool.not_eq_true, ltQ_eq_true_iff, ltQ_eq_true_iff, hmax, hmin]
    exact ⟨fun h => by omega, fun h => by omega⟩
  · have hzero : key 0#128 = 0 := by decide
    have hone : key 1#128 = 1 := by decide
    rw [ltQ_eq_true_iff, hzero] at hpos
    rw [← Bool.not_eq_true, ltQ_eq_true_iff, hone]
    omega
  · rintro (rfl | rfl | rfl)
    all_goals decide

end Sys2Proof.Machine
end

section
/-! EQUALS, CMP and CANON sort the patterns by one number (spec/42_comparator.md R160 to R167). -/

namespace Sys2Proof.Machine

open Sys2Proof.Safety

/-! ### The number that EQUALS, CMP and CANON sort by -/

/-- The signed magnitude, with all NaNs in one place above every other pattern (R162). -/
def sortKey (q : Quad) : Int := if NanPattern q then 2 ^ 127 else key q

/-- Every signed magnitude is below the place of the NaNs. -/
theorem key_lt (q : Quad) : key q < 2 ^ 127 := by
  have hlt := q.isLt
  rw [key]
  split <;> omega

/-- A NaN stands in its place, and every other pattern below it, at its signed magnitude. -/
theorem sortKey_cases (q : Quad) :
    (NanPattern q ∧ sortKey q = 2 ^ 127) ∨ (¬ NanPattern q ∧ sortKey q = key q ∧ sortKey q < 2 ^ 127) := by
  by_cases h : NanPattern q
  · exact .inl ⟨h, if_pos h⟩
  · have hkey : sortKey q = key q := if_neg h
    exact .inr ⟨h, hkey, hkey ▸ key_lt q⟩

/-! ### EQUALS -/

/-- `Equals` in terms of the fields (R160). -/
theorem equalsQ_eq_true_iff (a b : Quad) :
    equalsQ a b = true ↔ (¬ NanPattern a ∧ ¬ NanPattern b ∧ a = b) ∨ (ZeroPattern a ∧ ZeroPattern b)
      ∨ (NanPattern a ∧ NanPattern b) := by
  rw [equalsQ, Bool.or_eq_true, Bool.and_eq_true, eqQ_eq_true_iff, isNaN_eq_true_iff, isNaN_eq_true_iff, or_assoc]

/-- Settles O34. -/
theorem equalsMakesAllNansEqual : Obligations.EqualsMakesAllNansEqual :=
  fun s a b => answerR_onBit0 (equalsQ_eq_true_iff a b) s

/-- `Equals` is equality of the sort keys. -/
theorem equalsQ_eq_true_iff_sortKey (a b : Quad) : equalsQ a b = true ↔ sortKey a = sortKey b := by
  have hsplit : equalsQ a b = true ↔ eqQ a b = true ∨ (NanPattern a ∧ NanPattern b) := by
    rw [equalsQ, Bool.or_eq_true, Bool.and_eq_true, isNaN_eq_true_iff, isNaN_eq_true_iff]
  rw [hsplit]
  obtain ⟨ha, hkeya⟩ | ⟨ha, hkeya, hlta⟩ := sortKey_cases a <;>
    obtain ⟨hb, hkeyb⟩ | ⟨hb, hkeyb, hltb⟩ := sortKey_cases b
  · exact iff_of_true (.inr ⟨ha, hb⟩) (hkeya.trans hkeyb.symm)
  · rw [eqQ_of_nan (.inl ha), hkeya]
    exact iff_of_false (fun h => h.elim Bool.false_ne_true fun h => hb h.2) hltb.ne'
  · rw [eqQ_of_nan (.inr hb), hkeyb]
    exact iff_of_false (fun h => h.elim Bool.false_ne_true fun h => ha h.1) hlta.ne
  · rw [eqQ_of_not_nan ha hb, hkeya, hkeyb]
    exact or_iff_left fun h => ha h.1

/-- Settles O35: equality of a number is an equivalence. -/
theorem equalsIsAnEquivalence : Obligations.EqualsIsAnEquivalence := by
  refine ⟨fun s a => ?_, fun s a b => ?_, fun s a b c => ?_⟩
  · rw [yes_exec_equals, equalsQ_eq_true_iff_sortKey]
  · rw [yes_exec_equals, yes_exec_equals, Bool.eq_iff_iff, equalsQ_eq_true_iff_sortKey, equalsQ_eq_true_iff_sortKey,
      eq_comm]
  · simp only [yes_exec_equals, equalsQ_eq_true_iff_sortKey]
    exact Eq.trans

/-! ### CMP -/

/-- CMP answers the three-way compare as a signed 2-bit number (R161). -/
theorem orderOf_exec_cmp (s : State) (a b : Quad) : orderOf (exec (.cmp a b) s) = (cmpQ a b).toInt :=
  congrArg BitVec.toInt (onLow_extractLsb' (by decide) (cmpQ a b))

/-- The three-way compare is the sign of the difference of the sort keys (R161, R162). -/
theorem cmpQ_toInt (a b : Quad) : (cmpQ a b).toInt = (sortKey a - sortKey b).sign := by
  obtain ⟨ha, hkeya⟩ | ⟨ha, hkeya, hlta⟩ := sortKey_cases a <;>
    obtain ⟨hb, hkeyb⟩ | ⟨hb, hkeyb, hltb⟩ := sortKey_cases b
  · rw [cmpQ_of_nan (.inl ha), if_pos ⟨ha, hb⟩, hkeya, hkeyb, Int.sub_self]
    rfl
  · rw [cmpQ_of_nan (.inl ha), if_neg fun h => hb h.2, if_pos ha, Int.sign_eq_one_of_pos (by omega)]
    rfl
  · rw [cmpQ_of_nan (.inr hb), if_neg fun h => ha h.1, if_neg ha, Int.sign_eq_neg_one_of_neg (by omega)]
    rfl
  · obtain ⟨hlt, hgt, heq⟩ := cmpQ_of_not_nan ha hb
    rw [ltQ_of_not_nan ha hb] at hlt
    rw [ltQ_of_not_nan hb ha] at hgt
    rw [eqQ_of_not_nan ha hb] at heq
    rw [hkeya, hkeyb]
    rcases lt_trichotomy (key a) (key b) with h | h | h
    · rw [hlt h, Int.sign_eq_neg_one_of_neg (Int.sub_neg_of_lt h)]
      rfl
    · rw [heq h, h, Int.sub_self]
      rfl
    · rw [hgt h, Int.sign_eq_one_of_pos (Int.sub_pos_of_lt h)]
      rfl

/-- CMP answers at most 0 when the sort keys stand in order. -/
theorem orderOf_exec_cmp_nonpos_iff (s : State) (a b : Quad) :
    orderOf (exec (.cmp a b) s) ≤ 0 ↔ sortKey a ≤ sortKey b := by
  rw [orderOf_exec_cmp, cmpQ_toInt, Int.sign_nonpos_iff, sub_nonpos]

/-- The sort keys stand in order when the NaNs come last and the signed magnitudes stand in order. -/
theorem sortKey_le_sortKey_iff (a b : Quad) :
    sortKey a ≤ sortKey b ↔ NanPattern b ∨ (¬ NanPattern a ∧ key a ≤ key b) := by
  obtain ⟨ha, hkeya⟩ | ⟨ha, hkeya, hlta⟩ := sortKey_cases a <;>
    obtain ⟨hb, hkeyb⟩ | ⟨hb, hkeyb, hltb⟩ := sortKey_cases b
  · exact iff_of_true (hkeya.trans hkeyb.symm).le (.inl hb)
  · exact iff_of_false (by omega) fun h => h.elim hb fun h => h.1 ha
  · exact iff_of_true (by omega) (.inl hb)
  · rw [hkeya, hkeyb, or_iff_right hb, and_iff_right ha]

/-- Settles O38: the order of a number is total, and its ties are the classes of EQUALS. -/
theorem cmpIsATotalPreorder : Obligations.CmpIsATotalPreorder := by
  refine ⟨fun s a b => ?_, fun s a b => ?_, fun s a b c => ?_, fun s a b => ?_, fun s a b => ?_⟩
  · rw [orderOf_exec_cmp, cmpQ_toInt, Int.sign_eq_zero_iff_zero, Int.sub_eq_zero, yes_exec_equals,
      equalsQ_eq_true_iff_sortKey]
  · rw [orderOf_exec_cmp, orderOf_exec_cmp, cmpQ_toInt, cmpQ_toInt, ← Int.sign_neg, Int.neg_sub]
  · simp only [orderOf_exec_cmp_nonpos_iff]
    exact le_trans
  · simp only [orderOf_exec_cmp_nonpos_iff]
    exact le_total _ _
  · rw [orderOf_exec_cmp_nonpos_iff, sortKey_le_sortKey_iff]

/-! ### CANON and HASH -/

/-- Canonicalisation keeps the sort key (R165). -/
theorem sortKey_canonical (q : Quad) : sortKey (canonical q) = sortKey q := by
  obtain ⟨hnan, hkey⟩ | ⟨hnan, hkey, -⟩ := sortKey_cases q
  · rw [canonical_of_nan hnan, hkey]
    decide
  · by_cases hzero : ZeroPattern q
    · rw [canonical_of_zero hzero, hkey, (zeroPattern_iff_key_eq_zero q).mp hzero]
      decide
    · rw [canonical_of_not_nan_of_not_zero hnan hzero]

/-- The sort key determines the canonical value (R167). -/
theorem canonical_eq_canonical_iff (a b : Quad) : canonical a = canonical b ↔ sortKey a = sortKey b := by
  refine ⟨fun h => by rw [← sortKey_canonical a, h, sortKey_canonical], fun h => ?_⟩
  obtain ⟨-, -, rfl⟩ | ⟨ha, hb⟩ | ⟨ha, hb⟩ := (equalsQ_eq_true_iff a b).mp ((equalsQ_eq_true_iff_sortKey a b).mpr h)
  · rfl
  · rw [canonical_of_zero ha, canonical_of_zero hb]
  · rw [canonical_of_nan ha, canonical_of_nan hb]

/-- Settles O41: EQUALS and CANON tell the same patterns apart, and a hash is a function of the canonical value. -/
theorem equalValuesHashAlike : Obligations.EqualValuesHashAlike := by
  intro s a b
  have hequals : yes (exec (.equals a b) s) = true ↔ canonical a = canonical b := by
    rw [yes_exec_equals, equalsQ_eq_true_iff_sortKey, canonical_eq_canonical_iff]
  refine ⟨?_, fun h => ?_⟩
  · rw [hequals, exec_canon, exec_canon, next_answered_inj]
  · rw [exec_hash, exec_hash, hashOf, hequals.mp h, hashOf]

end Sys2Proof.Machine
end

section
/-! The comparisons against the numbers that finite patterns denote (spec/10_state.md R28; spec/42_comparator.md R154). -/

namespace Sys2Proof.Machine

open Sys2Proof.Safety

/-- The magnitude of the finite pattern `k` without sign, in units of the least subnormal: a subnormal counts its fraction, a
normal one its significand as often as its exponent says (R28). -/
def scaledMagnitude (k : Nat) : Nat :=
  if k / 2 ^ 112 = 0 then k else (2 ^ 112 + k % 2 ^ 112) * 2 ^ (k / 2 ^ 112 - 1)

/-- Below the first normal pattern the magnitude is the fraction. -/
theorem scaledMagnitude_of_exponent_zero {k : Nat} (h : k / 2 ^ 112 = 0) : scaledMagnitude k = k := if_pos h

/-- From the first normal pattern on the magnitude is the significand, doubled with each exponent. -/
theorem scaledMagnitude_of_exponent_succ {k e : Nat} (h : k / 2 ^ 112 = e + 1) :
    scaledMagnitude k = (2 ^ 112 + k % 2 ^ 112) * 2 ^ e := by
  rw [scaledMagnitude, h, if_neg (Nat.succ_ne_zero e), Nat.add_sub_cancel]

/-- The next pattern has the greater magnitude: its fraction is the next one, or its exponent is. -/
theorem scaledMagnitude_lt_succ (k : Nat) : scaledMagnitude k < scaledMagnitude (k + 1) := by
  by_cases hcarry : k % 2 ^ 112 + 1 < 2 ^ 112
  · cases he : k / 2 ^ 112 with
    | zero =>
      rw [scaledMagnitude_of_exponent_zero he, scaledMagnitude_of_exponent_zero (by omega)]
      exact Nat.lt_succ_self k
    | succ e =>
      rw [scaledMagnitude_of_exponent_succ he, scaledMagnitude_of_exponent_succ (k := k + 1) (e := e) (by omega)]
      exact Nat.mul_lt_mul_of_pos_right (by omega) (Nat.two_pow_pos e)
  · cases he : k / 2 ^ 112 with
    | zero =>
      rw [scaledMagnitude_of_exponent_zero he, scaledMagnitude_of_exponent_succ (k := k + 1) (e := 0) (by omega)]
      omega
    | succ e =>
      rw [scaledMagnitude_of_exponent_succ he, scaledMagnitude_of_exponent_succ (k := k + 1) (e := e + 1) (by omega)]
      calc (2 ^ 112 + k % 2 ^ 112) * 2 ^ e < (2 ^ 112 * 2) * 2 ^ e :=
            Nat.mul_lt_mul_of_pos_right (by omega) (Nat.two_pow_pos e)
        _ = (2 ^ 112 + (k + 1) % 2 ^ 112) * 2 ^ (e + 1) := by
            rw [show (k + 1) % 2 ^ 112 = 0 by omega, Nat.pow_succ]
            ring

/-- The scaled magnitude with the sign of a signed magnitude. -/
def scaledNumber (n : Int) : Int := n.sign * scaledMagnitude n.natAbs

/-- Without a sign the scaled number is the scaled magnitude. -/
theorem scaledNumber_of_nonneg {n : Int} (h : 0 ≤ n) : scaledNumber n = scaledMagnitude n.natAbs := by
  rcases h.eq_or_lt with rfl | hpos
  · rfl
  · rw [scaledNumber, Int.sign_eq_one_of_pos hpos, Int.one_mul]

/-- The scaled number has the sign of the signed magnitude. -/
theorem scaledNumber_neg (n : Int) : scaledNumber (-n) = -scaledNumber n := by
  rw [scaledNumber, scaledNumber, Int.sign_neg, Int.natAbs_neg, Int.neg_mul]

/-- The order of the signed magnitudes is the order of the numbers they scale to. -/
theorem scaledNumber_strictMono : StrictMono scaledNumber := by
  refine strictMono_of_odd_strictMonoOn_nonneg scaledNumber_neg fun m hm n hn hlt => ?_
  have hmono : StrictMono scaledMagnitude := strictMono_nat_of_lt_succ scaledMagnitude_lt_succ
  rw [scaledNumber_of_nonneg hm, scaledNumber_of_nonneg hn, Int.ofNat_lt]
  exact hmono (Int.natAbs_lt_natAbs_of_nonneg_of_lt hm hlt)

/-- The signed magnitude by sign, exponent field and significand (R154). -/
theorem key_eq_fields (q : Quad) :
    key q = if sign q then -((expField q * 2 ^ 112 + fracField q : Nat) : Int)
      else (expField q * 2 ^ 112 + fracField q : Nat) := by
  have hfields : expField q * 2 ^ 112 + fracField q = q.toNat % 2 ^ 127 := by
    rw [expField, fracField]
    omega
  rw [hfields]
  by_cases hneg : Negative q
  · rw [if_pos ((sign_eq_true_iff q).mpr hneg), key_of_negative hneg]
    omega
  · rw [if_neg (mt (sign_eq_true_iff q).mp hneg), key_of_not_negative hneg]
    omega

/-- The scaled number of a pattern by sign, exponent field and significand. -/
theorem scaledNumber_key (q : Quad) :
    (scaledNumber (key q) : ℚ) = signFactor (sign q) * scaledMagnitude (expField q * 2 ^ 112 + fracField q) := by
  have hnumber := scaledNumber_of_nonneg (Int.natCast_nonneg (expField q * 2 ^ 112 + fracField q))
  rw [Int.natAbs_natCast] at hnumber
  rw [key_eq_fields, signFactor]
  cases sign q
  · rw [if_neg Bool.false_ne_true, if_neg Bool.false_ne_true, hnumber, one_mul, Int.cast_natCast]
  · rw [if_pos rfl, if_pos rfl, scaledNumber_neg, hnumber, Int.cast_neg, neg_one_mul, Int.cast_natCast]

/-- The number of a finite pattern, in units of the least subnormal (R28). -/
theorem finiteValue_denote {q : Quad} {x : ℚ} (h : finiteValue (denote q) = some x) :
    ¬ NanPattern q ∧ x = scaledNumber (key q) * (2 ^ (1 - bias) / 2 ^ 112) := by
  have hfrac : fracField q < 2 ^ 112 := Nat.mod_lt _ (by decide)
  rw [denote, denoteFields, bexp_toNat, sig_toNat] at h
  rw [scaledNumber_key]
  cases he : expField q with
  | zero =>
    refine ⟨not_nanPattern_of_finite (by omega), ?_⟩
    rw [he, if_neg (by decide), if_pos rfl] at h
    rw [scaledMagnitude_of_exponent_zero (by omega), Nat.zero_mul, Nat.zero_add]
    split at h <;> obtain rfl := Option.some.inj h
    next hzero => rw [hzero, Nat.cast_zero, mul_zero, zero_mul]
    next => ring
  | succ e =>
    have hmax : e + 1 ≠ 2 ^ 15 - 1 := by
      intro hmax
      rw [he, if_pos hmax] at h
      split at h <;> cases h
    refine ⟨not_nanPattern_of_finite (by omega), ?_⟩
    rw [he, if_neg hmax, if_neg (Nat.succ_ne_zero e)] at h
    obtain rfl := Option.some.inj h
    have hlow : ((e + 1) * 2 ^ 112 + fracField q) % 2 ^ 112 = fracField q := by omega
    rw [scaledMagnitude_of_exponent_succ (e := e) (by omega), hlow]
    have hexp : (2 : ℚ) ^ (((e + 1 : Nat) : Int) - bias) = 2 ^ e * 2 ^ (1 - bias) := by
      rw [← zpow_natCast, ← zpow_add₀ two_ne_zero]
      push_cast
      ring_nf
    rw [hexp]
    push_cast
    ring

/-- Settles O33: a number is its signed magnitude, scaled in order. -/
theorem comparisonsAgreeWithTheNumbersDenoted : Obligations.ComparisonsAgreeWithTheNumbersDenoted := by
  intro s a b x y hx hy
  obtain ⟨ha, rfl⟩ := finiteValue_denote hx
  obtain ⟨hb, rfl⟩ := finiteValue_denote hy
  have hunit : (0 : ℚ) < 2 ^ (1 - bias) / 2 ^ 112 := by positivity
  rw [yes_exec_lt, yes_exec_eq, ltQ_of_not_nan ha hb, eqQ_of_not_nan ha hb, mul_lt_mul_iff_left₀ hunit,
    mul_left_inj' hunit.ne', Int.cast_lt, Int.cast_inj, scaledNumber_strictMono.lt_iff_lt,
    scaledNumber_strictMono.injective.eq_iff]
  exact ⟨Iff.rfl, Iff.rfl⟩

end Sys2Proof.Machine
end

section
/-! REBIAS of XRENORM (spec/43_lzc_exponent.md R184) and the wire format (spec/20_memory.md R41, R42). -/

namespace Sys2Proof.Machine

open Sys2Proof.Safety

/-- The rows of R184's format table: the format a number selects, with its exponent width. -/
theorem formatOf_of_mem_widths {fmt : BitVec 2} {E F : Nat}
    (h : (fmt, E, F) ∈ [(0#2, 5, 10), (1#2, 8, 23), (2#2, 11, 52)]) : ∃ f, formatOf fmt = some f ∧ expWidth f = E := by
  simp only [List.mem_cons, Prod.mk.injEq, List.not_mem_nil, or_false] at h
  obtain ⟨rfl, rfl, rfl⟩ | ⟨rfl, rfl, rfl⟩ | ⟨rfl, rfl, rfl⟩ := h
  · exact ⟨.binary16, rfl, rfl⟩
  · exact ⟨.binary32, rfl, rfl⟩
  · exact ⟨.binary64, rfl, rfl⟩

/-- A special source gets the sentinel (R182). -/
theorem renormExponent_of_special {f : SourceFormat} {be : BitVec 11}
    (h : be.toNat % 2 ^ expWidth f = 2 ^ expWidth f - 1) (sh : Nat) : renormExponent f be sh = 16384 := if_pos h

/-- Any other source gets an exponent below the sentinel (R182). -/
theorem renormExponent_lt_of_not_special {f : SourceFormat} {be : BitVec 11}
    (h : be.toNat % 2 ^ expWidth f ≠ 2 ^ expWidth f - 1) (sh : Nat) : renormExponent f be sh < 16384 := by
  have hbias : 15 ≤ expBias f := by cases f <;> decide
  have hbe : be.toNat % 2 ^ expWidth f < 2 ^ 11 := (Nat.mod_le _ _).trans_lt be.isLt
  rw [renormExponent, if_neg h]
  split_ifs <;> omega

/-- Settles O45: re-biasing the exponent of XRENORM does not wrap, so the field is the sum, and only the sentinel reaches the
largest. -/
theorem renormThenRebiasNeverWraps : Obligations.RenormThenRebiasNeverWraps := by
  intro s fmt be sh E F hrow _
  obtain ⟨f, hf, rfl⟩ := formatOf_of_mem_widths hrow
  have hint := xrenorm_toInt f be sh.isLt
  have hfield : ((onLow (rebias (xrenorm f be sh.toNat))).toNat : Int) = renormExponent f be sh.toNat + 16383 := by
    rw [onLow, BitVec.toNat_setWidth_of_le (by decide), rebias_xrenorm_toNat f be sh.isLt]
  have hlow := (renormExponent_bounds f be sh.isLt).1
  refine ⟨_, _, exec_xrenorm_of_format hf be sh s, exec_rebias s _, by rw [hfield, hint], fun h => ?_, fun h => ?_⟩
  · rw [renormExponent_of_special h] at hfield
    omega
  · have hhigh := renormExponent_lt_of_not_special h sh.toNat
    omega

/-- The eight bytes of a word, in either order (R42). -/
theorem wordBytes_length (order : ByteOrder) (w : Word) : (wordBytes order w).length = 8 := by
  cases order <;> rfl

/-- Settles O59. -/
theorem serialisedUpperWordFirst : Obligations.SerialisedUpperWordFirst := by
  intro q
  have hbytes : serialise q = wordBytes Config.serByteOrder (upper q) ++ wordBytes Config.serByteOrder (lower q) := by
    simp [serialise, wireWords]
  have hupper := wordBytes_length Config.serByteOrder (upper q)
  rw [hbytes]
  exact ⟨by rw [List.length_append, wordBytes_length, wordBytes_length], List.take_left' hupper, List.drop_left' hupper⟩

end Sys2Proof.Machine
end

section
/-! What a float conversion does to the fields of its source, and what follows: it is exact, keeps class and sign, and loses no
bits (spec/44_float_import.md R207, R208, R210). -/

namespace Sys2Proof.Machine

open Sys2Proof.Safety

/-! ### The fields of a value from its number -/

/-- A pattern put together from a sign, an exponent field and a significand has these fields (R17). -/
theorem fields_of_toNat {q : Quad} {s : Bool} {e f : Nat} (he : e < 2 ^ 15) (hf : f < 2 ^ 112)
    (hq : q.toNat = s.toNat * 2 ^ 127 + e * 2 ^ 112 + f) : sign q = s ∧ expField q = e ∧ fracField q = f := by
  refine ⟨?_, ?_, ?_⟩
  · rw [Bool.eq_iff_iff, sign_eq_true_iff, Negative, hq]
    cases s
    · exact iff_of_false (by rw [Bool.toNat_false]; omega) Bool.false_ne_true
    · exact iff_of_true (by rw [Bool.toNat_true]; omega) rfl
  · rw [expField, hq]
    omega
  · rw [fracField, hq]
    omega

/-! ### The fields of a conversion by class of source -/

/-- How a conversion takes the exponent field `e` and the fraction `f` of a source to the exponent field `e'` and the
significand `f'` of the result, by class of source (R202, R203). -/
inductive FieldsImported (fmt : SourceFormat) (e f e' f' : Nat) : Prop where
  | zero (he : e = 0) (hf : f = 0) (he' : e' = 0) (hf' : f' = 0)
  | subnormal (sh : Nat) (hpos : 1 ≤ sh) (he : e = 0) (hlow : 2 ^ fracWidth fmt ≤ f * 2 ^ sh)
      (hhigh : f * 2 ^ sh < 2 ^ (fracWidth fmt + 1)) (he' : (e' : Int) = 16384 - expBias fmt - sh)
      (hf' : f' = (f * 2 ^ sh - 2 ^ fracWidth fmt) * 2 ^ (112 - fracWidth fmt))
  | normal (hpos : 0 < e) (hlt : e < 2 ^ expWidth fmt - 1) (he' : (e' : Int) = e + 16383 - expBias fmt)
      (hf' : f' = f * 2 ^ (112 - fracWidth fmt))
  | special (he : e = 2 ^ expWidth fmt - 1) (he' : e' = 0x7FFF) (hf' : f' = f * 2 ^ (112 - fracWidth fmt))

/-- The field widths and the bias of every source format fit those of binary128 (R11). -/
theorem format_bounds (fmt : SourceFormat) :
    ∃ b : Nat, expBias fmt = b ∧ 15 ≤ b ∧ b ≤ 1023 ∧ fracWidth fmt ≤ 52 ∧ 4 ≤ 2 ^ expWidth fmt ∧
      2 ^ expWidth fmt ≤ 2 ^ 11 := by
  cases fmt
  · exact ⟨15, rfl, by decide⟩
  · exact ⟨127, rfl, by decide⟩
  · exact ⟨1023, rfl, by decide⟩

/-- A fraction of `F` bits moved to the top of the significand stays inside it. -/
theorem mul_two_pow_sub_lt {F f : Nat} (hF : F ≤ 112) (hf : f < 2 ^ F) : f * 2 ^ (112 - F) < 2 ^ 112 := by
  calc f * 2 ^ (112 - F) < 2 ^ F * 2 ^ (112 - F) := Nat.mul_lt_mul_of_pos_right hf (Nat.two_pow_pos _)
    _ = 2 ^ 112 := by rw [← Nat.pow_add, Nat.add_sub_cancel' hF]

/-- A fraction other than 0 has a shift that takes its leading 1 to bit `F`. -/
theorem exists_normalising_shift {F f : Nat} (hne : f ≠ 0) (hf : f < 2 ^ F) :
    ∃ sh, 1 ≤ sh ∧ 2 ^ F ≤ f * 2 ^ sh ∧ f * 2 ^ sh < 2 ^ (F + 1) := by
  have hlt := (Nat.log2_lt hne).mpr hf
  have hlog : Nat.log2 (f * 2 ^ (F - Nat.log2 f)) = F := by
    rw [log2_mul_two_pow hne]
    omega
  exact ⟨F - Nat.log2 f, by omega, (Nat.log2_eq_iff (by positivity)).mp hlog⟩

section

variable {fmt : SourceFormat} {e f e' f' : Nat}

/-- The shift of a subnormal source is at most the width of its fraction. -/
theorem normalising_shift_le {F sh : Nat} (hlow : 2 ^ F ≤ f * 2 ^ sh) (hhigh : f * 2 ^ sh < 2 ^ (F + 1)) : sh ≤ F := by
  have hlog := log2_add_shift_eq hlow hhigh
  omega

/-- Infinities and NaNs, and only they, get the largest exponent field (R208). -/
theorem FieldsImported.exponent_max_iff (h : FieldsImported fmt e f e' f') :
    e' = 0x7FFF ↔ e = 2 ^ expWidth fmt - 1 := by
  obtain ⟨b, hb, hb15, hb1023, hfrac, hexp4, hexp11⟩ := format_bounds fmt
  cases h with
  | zero he hf he' hf' => omega
  | subnormal sh _ he hlow hhigh he' hf' => omega
  | normal hpos hlt he' hf' => omega
  | special he he' hf' => omega

/-- Zeros, and only they, get the exponent field 0 (R208). -/
theorem FieldsImported.exponent_zero_iff (h : FieldsImported fmt e f e' f') : e' = 0 ↔ e = 0 ∧ f = 0 := by
  obtain ⟨b, hb, hb15, hb1023, hfrac, hexp4, hexp11⟩ := format_bounds fmt
  cases h with
  | zero he hf he' hf' => omega
  | subnormal sh _ he hlow hhigh he' hf' =>
    have hsh := normalising_shift_le hlow hhigh
    have hne : f ≠ 0 := left_ne_zero_of_mul ((Nat.two_pow_pos _).trans_le hlow).ne'
    omega
  | normal hpos hlt he' hf' => omega
  | special he he' hf' => omega

/-- A zero source leaves no significand. -/
theorem FieldsImported.significand_of_exponent_zero (h : FieldsImported fmt e f e' f') (he' : e' = 0) : f' = 0 := by
  obtain ⟨he, hf⟩ := h.exponent_zero_iff.mp he'
  cases h with
  | zero _ _ _ hf' => exact hf'
  | subnormal sh _ _ hlow _ _ _ =>
    rw [hf, Nat.zero_mul] at hlow
    exact absurd hlow (Nat.two_pow_pos _).not_ge
  | normal hpos _ _ _ => exact absurd he hpos.ne'
  | special _ _ hf' => rw [hf', hf, Nat.zero_mul]

/-- An infinity has no significand and a NaN has one, in the source and in the result (R208). -/
theorem FieldsImported.significand_of_special (h : FieldsImported fmt e f e' f') (he : e = 2 ^ expWidth fmt - 1) :
    f' = 0 ↔ f = 0 := by
  obtain ⟨b, hb, hb15, hb1023, hfrac, hexp4, hexp11⟩ := format_bounds fmt
  cases h with
  | zero _ hf _ hf' => omega
  | subnormal _ _ he0 _ _ _ _ => omega
  | normal _ hlt _ _ => omega
  | special _ _ hf' => rw [hf', Nat.mul_eq_zero, or_iff_left (Nat.two_pow_pos _).ne']

end

section

variable {fmt : SourceFormat} (p : BitVec (expWidth fmt + fracWidth fmt + 1))

/-- A conversion keeps the sign of its source and takes its fields as its class says (R202, R203). -/
theorem importSource_fields :
    sign (importSource fmt p) = p.getLsbD (expWidth fmt + fracWidth fmt) ∧
    FieldsImported fmt (p.toNat / 2 ^ fracWidth fmt % 2 ^ expWidth fmt) (p.toNat % 2 ^ fracWidth fmt)
      (expField (importSource fmt p)) (fracField (importSource fmt p)) := by
  obtain ⟨b, hb, hb15, hb1023, hfrac, hexp4, hexp11⟩ := format_bounds fmt
  have hf : p.toNat % 2 ^ fracWidth fmt < 2 ^ fracWidth fmt := Nat.mod_lt _ (Nat.two_pow_pos _)
  have he : p.toNat / 2 ^ fracWidth fmt % 2 ^ expWidth fmt < 2 ^ expWidth fmt := Nat.mod_lt _ (Nat.two_pow_pos _)
  have hplaced := mul_two_pow_sub_lt (by omega) hf
  obtain hzero | hpos := Nat.eq_zero_or_pos (p.toNat / 2 ^ fracWidth fmt % 2 ^ expWidth fmt)
  · by_cases hfzero : p.toNat % 2 ^ fracWidth fmt = 0
    · have hq : (importSource fmt p).toNat =
          (p.getLsbD (expWidth fmt + fracWidth fmt)).toNat * 2 ^ 127 + 0 * 2 ^ 112 + 0 := by
        simp only [importSource_toNat_of_zero p hzero hfzero, source_sign_toNat, Nat.zero_mul, Nat.add_zero]
      obtain ⟨hs, he', hf'⟩ := fields_of_toNat (by decide) (by decide) hq
      exact ⟨hs, .zero hzero hfzero he' hf'⟩
    · obtain ⟨sh, hshift, hlow, hhigh⟩ := exists_normalising_shift hfzero hf
      have hsh := normalising_shift_le hlow hhigh
      have hq := importSource_toNat_of_subnormal p hb hzero hlow hhigh
      rw [← source_sign_toNat] at hq
      obtain ⟨hs, he', hf'⟩ := fields_of_toNat (by omega) (mul_two_pow_sub_lt (by omega) (by omega)) hq
      exact ⟨hs, .subnormal sh hshift hzero hlow hhigh (by omega) hf'⟩
  · by_cases hmax : p.toNat / 2 ^ fracWidth fmt % 2 ^ expWidth fmt = 2 ^ expWidth fmt - 1
    · have hq := importSource_toNat_of_special p hmax
      rw [← source_sign_toNat] at hq
      obtain ⟨hs, he', hf'⟩ := fields_of_toNat (by decide) hplaced hq
      exact ⟨hs, .special hmax he' hf'⟩
    · have hlt : p.toNat / 2 ^ fracWidth fmt % 2 ^ expWidth fmt < 2 ^ expWidth fmt - 1 := by omega
      have hq := importSource_toNat_of_normal p hb hpos hlt
      rw [← source_sign_toNat] at hq
      obtain ⟨hs, he', hf'⟩ := fields_of_toNat (by omega) hplaced hq
      exact ⟨hs, .normal hpos hlt (by omega) hf'⟩

/-- The result is negative when the top bit of the source is set (R208). -/
theorem negative_importSource_iff : Negative (importSource fmt p) ↔ 2 ^ (expWidth fmt + fracWidth fmt) ≤ p.toNat := by
  obtain ⟨hsign, -⟩ := importSource_fields p
  have htop := source_sign_toNat p
  rw [← sign_eq_true_iff, hsign, ← Nat.one_le_div_iff (Nat.two_pow_pos _), ← htop]
  cases p.getLsbD (expWidth fmt + fracWidth fmt) <;> decide

/-- Class and sign of the result are those of the source, and no result is subnormal (R208). -/
theorem importSource_keeps_class_and_sign :
    (NanPattern (importSource fmt p) ↔ p.toNat / 2 ^ fracWidth fmt % 2 ^ expWidth fmt = 2 ^ expWidth fmt - 1 ∧
      p.toNat % 2 ^ fracWidth fmt ≠ 0) ∧
    (expField (importSource fmt p) = 0x7FFF ∧ fracField (importSource fmt p) = 0 ↔
      p.toNat / 2 ^ fracWidth fmt % 2 ^ expWidth fmt = 2 ^ expWidth fmt - 1 ∧ p.toNat % 2 ^ fracWidth fmt = 0) ∧
    (ZeroPattern (importSource fmt p) ↔
      p.toNat / 2 ^ fracWidth fmt % 2 ^ expWidth fmt = 0 ∧ p.toNat % 2 ^ fracWidth fmt = 0) ∧
    (Negative (importSource fmt p) ↔ 2 ^ (expWidth fmt + fracWidth fmt) ≤ p.toNat) ∧
    ¬ (expField (importSource fmt p) = 0 ∧ fracField (importSource fmt p) ≠ 0) := by
  obtain ⟨-, h⟩ := importSource_fields p
  refine ⟨?_, ?_, ?_, negative_importSource_iff p, fun ⟨he, hf⟩ => hf (h.significand_of_exponent_zero he)⟩
  · rw [NanPattern, h.exponent_max_iff]
    exact and_congr_right fun hmax => not_congr (h.significand_of_special hmax)
  · rw [h.exponent_max_iff]
    exact and_congr_right h.significand_of_special
  · rw [ZeroPattern, and_iff_left_of_imp h.significand_of_exponent_zero, h.exponent_zero_iff]

end

/-- Settles O50: the widths of each format. -/
theorem floatImportKeepsClassAndSign : Obligations.FloatImportKeepsClassAndSign := fun s =>
  ⟨fun p => ⟨_, exec_f16toq s p, importSource_keeps_class_and_sign (fmt := .binary16) p⟩,
    fun p => ⟨_, exec_f32toq s p, importSource_keeps_class_and_sign (fmt := .binary32) p⟩,
    fun p => ⟨_, exec_f64toq s p, importSource_keeps_class_and_sign (fmt := .binary64) p⟩⟩

end Sys2Proof.Machine
end

section
/-! A float conversion denotes the number of its source, and loses no bits (spec/44_float_import.md R207, R210). -/

namespace Sys2Proof.Machine

open Sys2Proof.Safety

/-! ### The number denoted, by class -/

section

variable {E F : Nat} {b : Int} {s : Bool} {e f : Nat}

/-- An infinity or a NaN (R28). -/
theorem denoteFields_of_special (he : e = 2 ^ E - 1) :
    denoteFields E F b s e f = if f = 0 then .infinity s else .nan := if_pos he

/-- A zero (R28). -/
theorem denoteFields_of_zero (hE : 0 ≠ 2 ^ E - 1) : denoteFields E F b s 0 0 = .zero s := by
  rw [denoteFields, if_neg hE, if_pos rfl, if_pos rfl]

/-- A subnormal (R28). -/
theorem denoteFields_of_subnormal (hE : 0 ≠ 2 ^ E - 1) (hf : f ≠ 0) :
    denoteFields E F b s 0 f = .number (signFactor s * 2 ^ (1 - b) * (f / 2 ^ F)) := by
  rw [denoteFields, if_neg hE, if_pos rfl, if_neg hf]

/-- A normal value (R28). -/
theorem denoteFields_of_normal (hzero : e ≠ 0) (hmax : e ≠ 2 ^ E - 1) :
    denoteFields E F b s e f = .number (signFactor s * 2 ^ ((e : Int) - b) * (1 + f / 2 ^ F)) := by
  rw [denoteFields, if_neg hmax, if_neg hzero]

end

/-- A number below 1 of `F` fraction bits, moved to the top of the significand, is the same number. -/
theorem fraction_at_top {F : Nat} (hF : F ≤ 112) (f : Nat) :
    ((f * 2 ^ (112 - F) : Nat) : ℚ) / 2 ^ 112 = f / 2 ^ F := by
  have hsplit : (2 : ℚ) ^ 112 = 2 ^ F * 2 ^ (112 - F) := by rw [← pow_add, Nat.add_sub_cancel' hF]
  rw [Nat.cast_mul, Nat.cast_pow, Nat.cast_ofNat, hsplit]
  exact mul_div_mul_right _ _ (by positivity)

/-- Dropping the leading 1 at bit `F` and adding the implicit bit leaves the number. -/
theorem one_add_fraction_of_leading_one {F m : Nat} (hF : F ≤ 112) (hlow : 2 ^ F ≤ m) :
    (1 : ℚ) + (((m - 2 ^ F) * 2 ^ (112 - F) : Nat) : ℚ) / 2 ^ 112 = m / 2 ^ F := by
  rw [fraction_at_top hF, Nat.cast_sub hlow, Nat.cast_pow, Nat.cast_ofNat, sub_div, div_self (by positivity),
    add_sub_cancel]

/-- The fields of a conversion denote what the fields of its source denote (R207). -/
theorem FieldsImported.denote_eq {fmt : SourceFormat} {e f e' f' : Nat} (h : FieldsImported fmt e f e' f') (s : Bool) :
    denoteFields 15 112 bias s e' f' = denoteFields (expWidth fmt) (fracWidth fmt) (expBias fmt) s e f := by
  obtain ⟨b, hb, hb15, hb1023, hfrac, hexp4, hexp11⟩ := format_bounds fmt
  have hmax : 0 ≠ 2 ^ expWidth fmt - 1 := by omega
  cases h with
  | zero he hf he' hf' =>
    rw [he, hf, he', hf', denoteFields_of_zero (by decide), denoteFields_of_zero hmax]
  | subnormal sh _ he hlow hhigh he' hf' =>
    have hne : f ≠ 0 := left_ne_zero_of_mul ((Nat.two_pow_pos _).trans_le hlow).ne'
    have hsh := normalising_shift_le hlow hhigh
    have hexp : (e' : Int) - bias = 1 - expBias fmt - sh := by
      rw [he', bias]
      ring
    have hshift : (2 : ℚ) ^ (1 - expBias fmt) = 2 ^ (1 - expBias fmt - sh) * 2 ^ sh := by
      rw [← zpow_natCast, ← zpow_add₀ two_ne_zero, sub_add_cancel]
    rw [he, denoteFields_of_normal (by omega) (by omega), denoteFields_of_subnormal hmax hne, hf',
      one_add_fraction_of_leading_one (by omega) hlow, hexp, hshift, Nat.cast_mul, Nat.cast_pow, Nat.cast_ofNat]
    congr 1
    ring
  | normal hpos hlt he' hf' =>
    have hexp : (e' : Int) - bias = e - expBias fmt := by
      rw [he', bias]
      ring
    rw [denoteFields_of_normal (by omega) (by omega), denoteFields_of_normal hpos.ne' hlt.ne, hexp, hf',
      fraction_at_top (by omega)]
  | special he he' hf' =>
    have hiff : f' = 0 ↔ f = 0 := by rw [hf', Nat.mul_eq_zero, or_iff_left (Nat.two_pow_pos _).ne']
    rw [denoteFields_of_special he', denoteFields_of_special he]
    simp only [hiff]

/-- The conversion of a source denotes what the source denotes (R207). -/
theorem denote_importSource {fmt : SourceFormat} (p : BitVec (expWidth fmt + fracWidth fmt + 1)) :
    denote (importSource fmt p) = denoteSource fmt p := by
  obtain ⟨hsign, hfields⟩ := importSource_fields p
  rw [denote, hsign, bexp_toNat, sig_toNat, hfields.denote_eq, denoteSource, source_exponent_toNat,
    source_fraction_toNat, Nat.add_sub_cancel]

/-- Settles O49: the widths and the bias of each format. -/
theorem floatImportIsExact : Obligations.FloatImportIsExact := fun s =>
  ⟨fun p => ⟨_, exec_f16toq s p, denote_importSource (fmt := .binary16) p⟩,
    fun p => ⟨_, exec_f32toq s p, denote_importSource (fmt := .binary32) p⟩,
    fun p => ⟨_, exec_f64toq s p, denote_importSource (fmt := .binary64) p⟩⟩

/-! ### The source from the result -/

/-- The exponent field and the fraction of the source, from those of the result (R210): the exponent field tells the class, and
a subnormal source's shift is the distance of its exponent from the least normal one. -/
def sourceFields (fmt : SourceFormat) (e' f' : Nat) : Nat × Nat :=
  let top := f' / 2 ^ (112 - fracWidth fmt)
  if e' = 0 then (0, 0)
  else if e' = 0x7FFF then (2 ^ expWidth fmt - 1, top)
  else if (16384 : Int) ≤ e' + expBias fmt then ((e' + expBias fmt - 16383).toNat, top)
  else (0, (2 ^ fracWidth fmt + top) / 2 ^ (16384 - expBias fmt - e').toNat)

/-- The fraction is read back from the top of the significand. -/
theorem top_of_mul (F f : Nat) : f * 2 ^ (112 - F) / 2 ^ (112 - F) = f := Nat.mul_div_cancel _ (Nat.two_pow_pos _)

/-- A subnormal fraction is read back by putting its leading 1 back and undoing the shift. -/
theorem subnormal_of_top {F f sh : Nat} (hlow : 2 ^ F ≤ f * 2 ^ sh) :
    (2 ^ F + (f * 2 ^ sh - 2 ^ F) * 2 ^ (112 - F) / 2 ^ (112 - F)) / 2 ^ sh = f := by
  rw [top_of_mul, Nat.add_sub_cancel' hlow, Nat.mul_div_cancel _ (Nat.two_pow_pos _)]

/-- The fields of the result determine those of the source (R210). -/
theorem FieldsImported.sourceFields_eq {fmt : SourceFormat} {e f e' f' : Nat} (h : FieldsImported fmt e f e' f') :
    sourceFields fmt e' f' = (e, f) := by
  obtain ⟨b, hb, hb15, hb1023, hfrac, hexp4, hexp11⟩ := format_bounds fmt
  cases h with
  | zero he hf he' hf' => rw [sourceFields, if_pos he', he, hf]
  | subnormal sh hpos he hlow hhigh he' hf' =>
    have hsh := normalising_shift_le hlow hhigh
    have hcount : (16384 - expBias fmt - e').toNat = sh := by omega
    rw [sourceFields, if_neg (by omega), if_neg (by omega), if_neg (by omega), hcount, hf', subnormal_of_top hlow, he]
  | normal hpos hlt he' hf' =>
    have hexp : (e' + expBias fmt - 16383).toNat = e := by omega
    rw [sourceFields, if_neg (by omega), if_neg (by omega), if_pos (by omega), hexp, hf', top_of_mul]
  | special he he' hf' => rw [sourceFields, if_neg (by omega), if_pos he', hf', top_of_mul, he]

section

variable {fmt : SourceFormat}

/-- A source is its sign, its exponent field and its fraction (R200). -/
theorem source_eq_of_fields {p p' : BitVec (expWidth fmt + fracWidth fmt + 1)}
    (hsign : p.getLsbD (expWidth fmt + fracWidth fmt) = p'.getLsbD (expWidth fmt + fracWidth fmt))
    (hexp : p.toNat / 2 ^ fracWidth fmt % 2 ^ expWidth fmt = p'.toNat / 2 ^ fracWidth fmt % 2 ^ expWidth fmt)
    (hfrac : p.toNat % 2 ^ fracWidth fmt = p'.toNat % 2 ^ fracWidth fmt) : p = p' := by
  have htop := congrArg Bool.toNat hsign
  rw [source_sign_toNat, source_sign_toNat, Nat.pow_add, Nat.mul_comm, ← Nat.div_div_eq_div_mul,
    ← Nat.div_div_eq_div_mul] at htop
  have hhigh : p.toNat / 2 ^ fracWidth fmt = p'.toNat / 2 ^ fracWidth fmt := by
    rw [← Nat.div_add_mod (p.toNat / 2 ^ fracWidth fmt) (2 ^ expWidth fmt), htop, hexp, Nat.div_add_mod]
  apply BitVec.eq_of_toNat_eq
  rw [← Nat.div_add_mod p.toNat (2 ^ fracWidth fmt), hhigh, hfrac, Nat.div_add_mod]

/-- No two sources share a result (R210). -/
theorem importSource_injective : Function.Injective (importSource fmt) := by
  intro p p' h
  obtain ⟨hsign, hfields⟩ := importSource_fields p
  obtain ⟨hsign', hfields'⟩ := importSource_fields p'
  have hsource := hfields.sourceFields_eq
  rw [h, hfields'.sourceFields_eq, Prod.mk.injEq] at hsource
  obtain ⟨hexp, hfrac⟩ := hsource
  exact source_eq_of_fields (by rw [← hsign, h, hsign']) hexp.symm hfrac.symm

/-- A finite source other than 0 is reconstructed from the fields of its result (R210). -/
theorem importSource_reconstructs {b : Nat} (hb : expBias fmt = b) (p : BitVec (expWidth fmt + fracWidth fmt + 1)) :
    (0 < p.toNat / 2 ^ fracWidth fmt % 2 ^ expWidth fmt →
      p.toNat / 2 ^ fracWidth fmt % 2 ^ expWidth fmt < 2 ^ expWidth fmt - 1 →
      p.toNat % 2 ^ fracWidth fmt = fracField (importSource fmt p) / 2 ^ (112 - fracWidth fmt) ∧
      p.toNat / 2 ^ fracWidth fmt % 2 ^ expWidth fmt + 16383 = expField (importSource fmt p) + b) ∧
    (p.toNat / 2 ^ fracWidth fmt % 2 ^ expWidth fmt = 0 → p.toNat % 2 ^ fracWidth fmt ≠ 0 →
      ∃ sh : Nat, (sh : Int) = (1 - (b : Int)) - ((expField (importSource fmt p) : Int) - 16383) ∧
        p.toNat % 2 ^ fracWidth fmt =
          (2 ^ fracWidth fmt + fracField (importSource fmt p) / 2 ^ (112 - fracWidth fmt)) / 2 ^ sh) := by
  obtain ⟨-, hfields⟩ := importSource_fields p
  cases hfields with
  | zero he hf _ _ => exact ⟨fun hpos => absurd he hpos.ne', fun _ hne => absurd hf hne⟩
  | subnormal sh _ he hlow _ he' hf' =>
    exact ⟨fun hpos => absurd he hpos.ne', fun _ _ => ⟨sh, by omega, by rw [hf', subnormal_of_top hlow]⟩⟩
  | normal hpos _ he' hf' =>
    exact ⟨fun _ _ => ⟨by rw [hf', top_of_mul], by omega⟩, fun hzero => absurd hzero hpos.ne'⟩
  | special he _ _ =>
    have hmax : 0 < 2 ^ expWidth fmt - 1 := by cases fmt <;> decide
    exact ⟨fun _ hlt => absurd he hlt.ne, fun hzero => absurd (he.symm.trans hzero) hmax.ne'⟩

end

/-- Settles O52: the widths and the bias of each format. -/
theorem floatImportLosesNoBits : Obligations.FloatImportLosesNoBits := fun s =>
  ⟨fun p => ⟨_, exec_f16toq s p, importSource_reconstructs (fmt := .binary16) rfl p⟩,
    fun p => ⟨_, exec_f32toq s p, importSource_reconstructs (fmt := .binary32) rfl p⟩,
    fun p => ⟨_, exec_f64toq s p, importSource_reconstructs (fmt := .binary64) rfl p⟩,
    fun _ _ h => importSource_injective (fmt := .binary16) (next_answered_inj.mp h),
    fun _ _ h => importSource_injective (fmt := .binary32) (next_answered_inj.mp h),
    fun _ _ h => importSource_injective (fmt := .binary64) (next_answered_inj.mp h)⟩

end Sys2Proof.Machine
end

section
/-! What an integer conversion denotes, and how the integer units agree (spec/45_int_import.md R224 to R228;
spec/30_encoding.md R72). -/

namespace Sys2Proof.Machine

open Sys2Proof.Safety

/-! ### The fields of a conversion -/

/-- The magnitude of a signed integer fits its width. -/
theorem natAbs_toInt_lt {W : Nat} (hW : W ≤ 64) (n : BitVec W) : n.toInt.natAbs < 2 ^ 64 := by
  have hpow : 2 ^ W ≤ 2 ^ 64 := Nat.pow_le_pow_right (by decide) hW
  have hlt := n.isLt
  rw [BitVec.toInt_eq_toNat_cond]
  split <;> omega

/-- The number of an unsigned integer fits its width. -/
theorem toNat_lt_two_pow_64 {W : Nat} (hW : W ≤ 64) (n : BitVec W) : n.toNat < 2 ^ 64 :=
  n.isLt.trans_le (Nat.pow_le_pow_right (by decide) hW)

/-- The signed number of a pattern is 0 for the pattern 0 only. -/
theorem toInt_ne_zero {W : Nat} {n : BitVec W} (hn : n ≠ 0#W) : n.toInt ≠ 0 := fun h =>
  hn (BitVec.eq_of_toInt_eq (h.trans BitVec.toInt_zero.symm))

/-- The unsigned number of a pattern is 0 for the pattern 0 only. -/
theorem toNat_ne_zero {W : Nat} {n : BitVec W} (hn : n ≠ 0#W) : (n.toNat : Int) ≠ 0 := fun h =>
  hn (BitVec.eq_of_toNat_eq (Int.ofNat_eq_zero.mp h))

section

variable {n : Int} {q : Quad}

/-- The conversion of an integer other than 0 by its leading 1: sign, exponent field and significand (R222). -/
theorem integerImported_fields (hn : n ≠ 0) (hlt : n.natAbs < 2 ^ 64) (h : IntegerImported n q.toNat) :
    ∃ x, x < 64 ∧ 2 ^ x ≤ n.natAbs ∧ sign q = decide (n < 0) ∧ expField q = 16383 + x ∧
      fracField q = (n.natAbs - 2 ^ x) * 2 ^ (112 - x) := by
  obtain ⟨-, hplaced⟩ := h
  have habs : n.natAbs ≠ 0 := Int.natAbs_ne_zero.mpr hn
  have hx : Nat.log2 n.natAbs < 64 := (Nat.log2_lt habs).mpr hlt
  have hlow : 2 ^ Nat.log2 n.natAbs ≤ n.natAbs := Nat.log2_self_le habs
  have hhigh : n.natAbs < 2 ^ (Nat.log2 n.natAbs + 1) := Nat.lt_log2_self
  have hq : q.toNat = (decide (n < 0)).toNat * 2 ^ 127 + (16383 + Nat.log2 n.natAbs) * 2 ^ 112 +
      (n.natAbs - 2 ^ Nat.log2 n.natAbs) * 2 ^ (112 - Nat.log2 n.natAbs) := by
    rw [hplaced _ hlow hhigh]
    by_cases hneg : n < 0 <;> simp [hneg]
  exact ⟨_, hx, hlow, fields_of_toNat (by omega) (mul_two_pow_sub_lt (by omega) (by omega)) hq⟩

/-- The fields of R220 to R222 determine the pattern. -/
theorem integerImported_unique {q' : Quad} (h : IntegerImported n q.toNat) (h' : IntegerImported n q'.toNat) : q = q' := by
  obtain ⟨hzero, hplaced⟩ := h
  obtain ⟨hzero', hplaced'⟩ := h'
  apply BitVec.eq_of_toNat_eq
  by_cases hn : n = 0
  · rw [hzero hn, hzero' hn]
  · have hlow := Nat.log2_self_le (Int.natAbs_ne_zero.mpr hn)
    rw [hplaced _ hlow Nat.lt_log2_self, hplaced' _ hlow Nat.lt_log2_self]

/-- The conversion of 0 is the pattern 0 (R220). -/
theorem integerImported_zero (hn : n = 0) (h : IntegerImported n q.toNat) : q = 0#128 :=
  BitVec.eq_of_toNat_eq (h.1 hn)

/-- The conversion denotes the integer (R226). -/
theorem denote_of_integerImported (hlt : n.natAbs < 2 ^ 64) (h : IntegerImported n q.toNat) :
    denote q = denoteInt n := by
  by_cases hn : n = 0
  · have hzero : denote 0#128 = .zero false := by decide
    rw [integerImported_zero hn h, denoteInt, if_pos hn, hzero]
  · obtain ⟨x, hx, hlow, hsign, hexp, hfrac⟩ := integerImported_fields hn hlt h
    have hscale : ((16383 + x : Nat) : Int) - bias = x := by
      rw [bias]
      omega
    have habs : signFactor (decide (n < 0)) * (n.natAbs : ℚ) = n := by
      rw [signFactor, Nat.cast_natAbs]
      by_cases hneg : n < 0
      · rw [if_pos (decide_eq_true hneg), abs_of_neg hneg, Int.cast_neg, neg_mul_neg, one_mul]
      · rw [if_neg (by simpa using hneg), abs_of_nonneg (not_lt.mp hneg), one_mul]
    rw [denote, bexp_toNat, sig_toNat, hsign, hexp, hfrac, denoteFields_of_normal (by omega) (by omega), hscale,
      one_add_fraction_of_leading_one (by omega) hlow, zpow_natCast, mul_assoc, mul_div_cancel₀ _ (by positivity),
      habs, denoteInt, if_neg hn]

/-- The exponent field of a conversion of an integer other than 0 (R228). -/
theorem expField_of_integerImported (hn : n ≠ 0) (hlt : n.natAbs < 2 ^ 64) (h : IntegerImported n q.toNat) :
    0x3FFF ≤ expField q ∧ expField q ≤ 0x403E := by
  obtain ⟨x, hx, -, -, hexp, -⟩ := integerImported_fields hn hlt h
  omega

end

/-- Settles O54: the conversion at the width and the signedness of each unit. -/
theorem integerImportIsExact : Obligations.IntegerImportIsExact := fun s =>
  ⟨fun n => ⟨_, exec_i32toq s n, denote_of_integerImported (natAbs_toInt_lt (by decide) n)
      (iimport_signed_integerImported (by decide) n)⟩,
    fun n => ⟨_, exec_i64toq s n, denote_of_integerImported (natAbs_toInt_lt (by decide) n)
      (iimport_signed_integerImported (by decide) n)⟩,
    fun n => ⟨_, exec_u64toq s n, denote_of_integerImported (toNat_lt_two_pow_64 (by decide) n)
      (iimport_unsigned_integerImported (by decide) n)⟩⟩

/-- A signed conversion is zero or normal (R228). -/
theorem iimport_signed_zero_or_normal {W : Nat} (hW : W ≤ 64) (n : BitVec W) :
    (n = 0#W → iimport true n = 0#128) ∧
    (n ≠ 0#W → 0x3FFF ≤ expField (iimport true n) ∧ expField (iimport true n) ≤ 0x403E) := by
  refine ⟨fun hn => ?_, fun hn => ?_⟩
  · rw [hn, iimport_zero]
    rfl
  · exact expField_of_integerImported (toInt_ne_zero hn) (natAbs_toInt_lt hW n) (iimport_signed_integerImported hW n)

/-- An unsigned conversion is zero or normal (R228). -/
theorem iimport_unsigned_zero_or_normal {W : Nat} (hW : W ≤ 64) (n : BitVec W) :
    (n = 0#W → iimport false n = 0#128) ∧
    (n ≠ 0#W → 0x3FFF ≤ expField (iimport false n) ∧ expField (iimport false n) ≤ 0x403E) := by
  refine ⟨fun hn => ?_, fun hn => ?_⟩
  · rw [hn, iimport_zero]
    rfl
  · exact expField_of_integerImported (toNat_ne_zero hn) (toNat_lt_two_pow_64 hW n)
      (iimport_unsigned_integerImported hW n)

/-- Settles O56, unit by unit. -/
theorem integerResultsAreZeroOrNormal : Obligations.IntegerResultsAreZeroOrNormal := fun s =>
  ⟨fun n => ⟨_, exec_i32toq s n, iimport_signed_zero_or_normal (by decide) n⟩,
    fun n => ⟨_, exec_i64toq s n, iimport_signed_zero_or_normal (by decide) n⟩,
    fun n => ⟨_, exec_u64toq s n, iimport_unsigned_zero_or_normal (by decide) n⟩⟩

/-! ### Negation -/

/-- The sign of a tuple construction is bit 127 alone (R102). -/
theorem encTuple_not (s : Bool) (e : BitVec 16) (su : BitVec 48) (sl : Word) :
    encTuple (!s) e su sl = encTuple s e su sl ^^^ 0x80000000000000000000000000000000#128 := by
  have hbit : 0x80000000000000000000000000000000#128 = 1#1 ++ 0#15 ++ 0#48 ++ 0#64 := by decide
  have hsign : BitVec.ofBool s ^^^ 1#1 = BitVec.ofBool (!s) := by cases s <;> rfl
  rw [hbit, encTuple, encTuple, BitVec.xor_append, BitVec.xor_append, BitVec.xor_append, hsign, BitVec.xor_zero,
    BitVec.xor_zero, BitVec.xor_zero]

/-- A magnitude under the other sign (R222). -/
theorem placeMagnitude_not {W : Nat} (s : Bool) (m : BitVec W) :
    placeMagnitude (!s) m = placeMagnitude s m ^^^ 0x80000000000000000000000000000000#128 := encTuple_not s _ _ _

/-- An integer and its negation have one magnitude under the two signs (R227). -/
theorem iimport_neg {W : Nat} {n : BitVec W} (hn : n ≠ 0#W) (hmin : n ≠ BitVec.intMin W) :
    iimport true (-n) = iimport true n ^^^ 0x80000000000000000000000000000000#128 := by
  have hneg : (-n).toInt = -n.toInt := BitVec.toInt_neg_of_ne_intMin hmin
  have hne := toInt_ne_zero hn
  obtain ⟨m, hm, hplaced⟩ := iimport_signed hn
  obtain ⟨m', hm', hplaced'⟩ := iimport_signed (n := -n) fun h => hn (BitVec.neg_eq_zero_iff.mp h)
  have hmagnitude : m' = m := BitVec.eq_of_toNat_eq (by rw [hm', hm, hneg, Int.natAbs_neg])
  have hsign : decide ((-n).toInt < 0) = !decide (n.toInt < 0) := by
    rw [hneg, ← decide_not, decide_eq_decide]
    omega
  rw [hplaced', hplaced, hmagnitude, hsign, placeMagnitude_not]

/-- Settles O55, at both widths. -/
theorem negatedIntegersDifferInTheSignBit : Obligations.NegatedIntegersDifferInTheSignBit := by
  refine fun s => ⟨fun n hn hmin => ⟨_, exec_i32toq s n, ?_⟩, fun n hn hmin => ⟨_, exec_i64toq s n, ?_⟩⟩
  · rw [exec_i32toq, iimport_neg hn hmin]
  · rw [exec_i64toq, iimport_neg hn hmin]

/-! ### The units agree -/

/-- The response to U64TOQ (R225). -/
theorem ask_u64toq (n : BitVec 64) : ask (.u64toq n) = ⟨iimport false n, 0#32, false⟩ :=
  ask_of_exec (decodeEncodeRoundTrip _) fun _ => rfl

/-- Widening an unsigned integer keeps its conversion (R72). -/
theorem iimport_unsigned_setWidth (x : BitVec 32) : iimport false (x.setWidth 64) = iimport false x := by
  have hwide := iimport_unsigned_integerImported (by decide) (x.setWidth 64)
  rw [BitVec.toNat_setWidth_of_le (by decide)] at hwide
  exact integerImported_unique hwide (iimport_unsigned_integerImported (by decide) x)

/-- Widening a signed integer keeps its conversion (R224). -/
theorem iimport_signed_signExtend (n : BitVec 32) : iimport true (n.signExtend 64) = iimport true n := by
  have hwide := iimport_signed_integerImported (by decide) (n.signExtend 64)
  rw [BitVec.toInt_signExtend_of_le (by decide)] at hwide
  exact integerImported_unique hwide (iimport_signed_integerImported (by decide) n)

/-- Below `2^63` the two readings of a word are one number (R225). -/
theorem iimport_unsigned_eq_signed {n : BitVec 64} (hn : n.toNat < 2 ^ 63) : iimport false n = iimport true n := by
  have hint : n.toInt = n.toNat := BitVec.toInt_eq_toNat_of_lt (by omega)
  have hsigned := iimport_signed_integerImported (by decide) n
  rw [hint] at hsigned
  exact integerImported_unique (iimport_unsigned_integerImported (by decide) n) hsigned

/-- Settles O57: a pattern is determined by the integer it is the conversion of. -/
theorem integerUnitsAgree : Obligations.IntegerUnitsAgree := by
  refine ⟨fun s n => ?_, fun s n hn => ?_, fun x => ?_⟩
  · rw [exec_i64toq, exec_i32toq, iimport_signed_signExtend]
  · rw [exec_u64toq, exec_i64toq, iimport_unsigned_eq_signed hn]
  · have hexpand : pseudoU32toq x = iimport false x := by rw [pseudoU32toq, ask_u64toq, iimport_unsigned_setWidth]
    exact ⟨hexpand ▸ iimport_unsigned_integerImported (by decide) x, hexpand⟩

end Sys2Proof.Machine
end
